-- ==== Sys2Proof/Word.lean ====
section
/-! DEFINITION. The bit vectors the block's port and registers are made of (10_state.md rules R10, R21, R22). -/

namespace Sys2Proof

/-- A 64-bit register word or data word of a bus transaction (00_scope.md R9, 20_memory.md R62). -/
abbrev Word := BitVec 64

/-- One byte lane of a word (20_memory.md R63). -/
abbrev Byte := BitVec 8

/-- A byte offset into the 128-byte register window (10_state.md R21: 7 bits). -/
abbrev Offset := BitVec 7

/-- A 4-bit field: an opcode, STATUS.ERRCODE, STATUS.LASTOP (10_state.md R26, 30_encoding.md R81). -/
abbrev Nibble := BitVec 4

end Sys2Proof
end

