-- ==== Sys2Proof/Config.lean ====
section
/-! DEFINITION. The parameters a build or a platform fixes (00_scope.md R8): the operand width W and the window's BASE.
LAT and the bus protocol are parameters no rule reads (93_implementation_defined.md U6, U7), so nothing stands for them. -/

namespace Sys2Proof

/-- The build and platform parameters of one machine. State carries them, and no step changes them. -/
structure Config where
  /-- W, the width in bits of every operand, modulus and result (00_scope.md R8). -/
  width : Nat
  /-- BASE, the bus address of the register window (20_memory.md R61). -/
  base  : Nat
  deriving DecidableEq, Repr

/-- The reference configuration, W = 64 (00_scope.md R8).
BASE is OPEN in the spec; 0 here is a DESIGN CHOICE (log entry 2). -/
def Config.reference : Config := { width := 64, base := 0 }

/-- REV, the revision of the spec (10_state.md R23). -/
def Config.revision : Byte := 0x01#8

/-- OPSUP, the bitmap of supported opcodes (10_state.md R23). -/
def Config.opsup : BitVec 16 := 0x003E#16

end Sys2Proof
end

