-- ==== Sys2Proof/Syntax.lean ====
section
/-! DEFINITION. The five commands (30_encoding.md R83), one constructor per row of spec/opcode_table.json.
No command word holds an operand (R82), so no constructor has an argument. -/

namespace Sys2Proof

/-- The commands of the opcode map (30_encoding.md R83). -/
inductive Instr where
  /-- OP 0x1, 44_modmul_modadd.md R150. -/
  | modadd
  /-- OP 0x2, 44_modmul_modadd.md R151. -/
  | modmul
  /-- OP 0x3, 43_modpow.md R140. -/
  | modpow
  /-- OP 0x4, 41_gcd.md R120. -/
  | gcd
  /-- OP 0x5, 42_modinv.md R130. -/
  | modinv
  deriving DecidableEq, Repr

end Sys2Proof
end

