-- ==== Sys2Proof/WellFormed.lean ====
section
/-! DEFINITION. What makes a configuration and a command well formed. -/

namespace Sys2Proof

/-- W is a legal operand width: 2 <= W <= 64 (00_scope.md R8). -/
def Config.widthOk (c : Config) : Bool := decide (2 ≤ c.width) && decide (c.width ≤ 64)

/-- BASE is a multiple of 128 (20_memory.md R61). -/
def Config.baseOk (c : Config) : Bool := decide (c.base % 128 = 0)

/-- A legal configuration. -/
def Config.wellFormed (c : Config) : Bool := c.widthOk && c.baseOk

/-- Every command is well formed: none has an operand or a modifier to get wrong (30_encoding.md R82, R86). -/
def Instr.wellFormed : Instr → Bool
  | .modadd => true
  | .modmul => true
  | .modpow => true
  | .gcd    => true
  | .modinv => true

end Sys2Proof
end

