-- ==== Sys2Proof/Decode.lean ====
section
/-! DEFINITION. The command word, format C64 (30_encoding.md R80 to R86): the decoder, total on every word and on
every list of bytes, and the encoder written from the same table. -/

namespace Sys2Proof

/-- OP, bits [3:0] of a command word (30_encoding.md R81). -/
def opField (v : Word) : Nibble := v.extractLsb' 0 4

/-- RSVD, bits [63:4] of a command word (30_encoding.md R81). -/
def rsvdField (v : Word) : BitVec 60 := v.extractLsb' 4 60

/-- The opcode map over OP (30_encoding.md R83). The other eleven values are illegal (R84). -/
def decodeOp (op : Nibble) : Option Instr :=
  if op = 0x1#4 then some .modadd
  else if op = 0x2#4 then some .modmul
  else if op = 0x3#4 then some .modpow
  else if op = 0x4#4 then some .gcd
  else if op = 0x5#4 then some .modinv
  else none

/-- The decoder (30_encoding.md R85): `none` is an illegal word. -/
def decode (v : Word) : Option Instr :=
  if rsvdField v ≠ 0#60 then none else decodeOp (opField v)

/-- Byte lane k of a word carries its bits [8k+7:8k] (20_memory.md R63). -/
def byteLane (v : Word) (k : Nat) : Byte := v.extractLsb' (8 * k) 8

/-- The eight byte lanes of a word, the lowest bus address first (20_memory.md R63: little-endian). -/
def wordBytes (v : Word) : List Byte := (List.range 8).map (byteLane v)

/-- The number whose bytes, least significant first, are the list. -/
def bytesToNat : List Byte → Nat
  | []      => 0
  | b :: bs => b.toNat + 256 * bytesToNat bs

/-- A command is exactly eight bytes (30_encoding.md R80), in the lane order of 20_memory.md R63. -/
def decodeBytes (bs : List Byte) : Option Instr :=
  if bs.length = 8 then decode (BitVec.ofNat 64 (bytesToNat bs)) else none

/-- The command whose bits are w, numbered as spec/opcode_table.json numbers them. A word with a bit above 63 is
longer than a command and decodes to nothing (30_encoding.md R80). -/
def decodeTableWord (nbits w : Nat) : Option Instr :=
  if w % 2 ^ nbits < 2 ^ 64 then decodeBytes (wordBytes (BitVec.ofNat 64 (w % 2 ^ nbits))) else none

/-- The opcode of a command (30_encoding.md R83). -/
def opcode : Instr → Nibble
  | .modadd => 0x1#4
  | .modmul => 0x2#4
  | .modpow => 0x3#4
  | .gcd    => 0x4#4
  | .modinv => 0x5#4

/-- The command word of a command: OP in bits [3:0], RSVD zero (30_encoding.md R81, R83). -/
def encode (i : Instr) : Word := 0#60 ++ opcode i

/-- The bytes of a command word as a bus that numbers bytes carries them (20_memory.md R63). -/
def encodeBytes (i : Instr) : List Byte := wordBytes (encode i)

end Sys2Proof
end

