-- ==== Sys2Proof/Machine/State.lean ====
section
/-! DEFINITION. The state of the block as plain data: the record of 10_state.md R45, the parameters it is built
with (00_scope.md R8), and the model's own record of the bus port and of who moves next (log entries 3, 8, 9). -/

namespace Sys2Proof.Machine

/-- The nine registers of the window (10_state.md R22). -/
inductive Reg where
  | id
  | ctrl
  | status
  | cmd
  | opa
  | opb
  | opm
  | result
  | steps
  deriving DecidableEq, Repr

/-- A host bus transaction, by bus address (00_scope.md R13, 20_memory.md R60, R62). Every size is a transaction;
only size 8 is legal, so the data of another size is never looked at (log entry 11). -/
inductive Transaction where
  | read (addr size : Nat)
  | write (addr size : Nat) (data : Word)
  deriving DecidableEq, Repr

/-- What steps the machine, one of three kinds (00_scope.md R19). -/
inductive Event where
  /-- A host bus transaction. -/
  | bus (t : Transaction)
  /-- The engine's completion step (40_command_lifecycle.md R105). -/
  | completion
  /-- The hardware reset input (70_reset_and_hazards.md R190, R192). -/
  | hardwareReset
  deriving DecidableEq, Repr

/-- What the bus target port answers (10_state.md R21). -/
inductive Response where
  /-- OKAY to a read, with the register's 64 bits. -/
  | okayData (data : Word)
  /-- OKAY to a write. -/
  | okay
  /-- ERROR: no data, no state change (20_memory.md R62). -/
  | error
  deriving DecidableEq, Repr

/-- The errors a command can complete with (60_exceptions.md R160). -/
inductive CommandError where
  /-- Code 1: a word that decodes to no command (R161). -/
  | illegalCommand
  /-- Code 2: latched modulus 0 (R162). -/
  | invalidModulus
  /-- Code 3: gcd(A, n) is not 1 (R163). -/
  | noInverse
  deriving DecidableEq, Repr

/-- What `Exec` returns (40_command_lifecycle.md R105): `Ok(r, s)` or `Err(code, s)`. -/
inductive ExecResult where
  | ok (r s : Nat)
  | err (e : CommandError) (s : Nat)
  deriving DecidableEq, Repr

/-- The command in flight: h.OP, h.A, h.B, h.M (10_state.md R38). -/
structure Latch where
  /-- h.OP, the opcode, held decoded (log entry 6). -/
  op : Instr
  /-- h.A, the copy of OPA. -/
  a  : Word
  /-- h.B, the copy of OPB. -/
  b  : Word
  /-- h.M, the copy of OPM. -/
  m  : Word
  deriving DecidableEq, Repr

/-- The machine's state (10_state.md R45). -/
structure State where
  /-- W and BASE (00_scope.md R8); no step changes them. -/
  cfg       : Config
  /-- CTRL.IRQ_EN (10_state.md R24). -/
  irqEn     : Bool
  /-- STATUS.BUSY (10_state.md R27). -/
  busy      : Bool
  /-- STATUS.DONE (10_state.md R28). -/
  done      : Bool
  /-- STATUS.ERR (10_state.md R29). -/
  err       : Bool
  /-- STATUS.OVR (10_state.md R30). -/
  ovr       : Bool
  /-- STATUS.ERRCODE (10_state.md R29, 60_exceptions.md R160). -/
  errcode   : Nibble
  /-- STATUS.LASTOP (10_state.md R31). -/
  lastop    : Nibble
  /-- OPA (10_state.md R34, R35). -/
  opa       : Word
  /-- OPB (10_state.md R34, R35). -/
  opb       : Word
  /-- OPM (10_state.md R34, R35). -/
  opm       : Word
  /-- RESULT (10_state.md R36). -/
  result    : Word
  /-- STEPS (10_state.md R37). -/
  steps     : Word
  /-- h.OP, h.A, h.B, h.M, or none while idle (10_state.md R38, R45). -/
  inflight  : Option Latch
  /-- The port's response to the transaction of the last step, if it was one (log entry 9). -/
  response  : Option Response
  /-- A transaction got an ERROR response; recorded and never cleared (60_exceptions.md R167, log entry 8). -/
  hostFault : Bool
  /-- Who moves next, oldest first (00_scope.md R19, log entry 3). -/
  agenda    : List Event
  deriving DecidableEq, Repr

/-- Why a step stops. -/
inductive Fault where
  /-- Raised by the engine's completion when BUSY = 1 and no command is latched: a state outside the invariant of
  10_state.md R45, which no run from reset reaches, and in which R105 has no latches to evaluate. Safe: it stops. -/
  | latchesEmpty
  deriving DecidableEq, Repr

/-- Why a step has no meaning. -/
inductive Refusal where
  /-- Raised by an arm of exec whose instruction has no meaning yet; no arm is left so. Safe: it stops. -/
  | notModelled (mnemonic : String)
  deriving DecidableEq, Repr

/-- The state after a hardware reset of a machine with parameters c: every value of 10_state.md R43's table is 0,
nothing is in flight, and nothing has happened on the bus yet. -/
def State.resetWith (c : Config) : State where
  cfg       := c
  irqEn     := false
  busy      := false
  done      := false
  err       := false
  ovr       := false
  errcode   := 0#4
  lastop    := 0#4
  opa       := 0#64
  opb       := 0#64
  opm       := 0#64
  result    := 0#64
  steps     := 0#64
  inflight  := none
  response  := none
  hostFault := false
  agenda    := []

/-- The machine right after reset, in the reference configuration (00_scope.md R8, 10_state.md R43). -/
def State.reset : State := State.resetWith Config.reference

end Sys2Proof.Machine
end

