-- ==== Sys2Proof/Machine/Flags.lean ====
section
/-! DEFINITION. The control and status words and the flags' own rules: ID, CTRL, STATUS, the W1C write, the error
codes, irq (10_state.md R23 to R33, R41, R42). -/

namespace Sys2Proof.Machine

/-- The code STATUS.ERRCODE holds for an error (60_exceptions.md R160). -/
def CommandError.code : CommandError → Nibble
  | .illegalCommand => 1#4
  | .invalidModulus => 2#4
  | .noInverse      => 3#4

/-- ID = reserved, OPSUP, REV, WIDTH (10_state.md R23). -/
def idWord (c : Config) : Word :=
  0#32 ++ Config.opsup ++ Config.revision ++ BitVec.ofNat 8 c.width

/-- A read of CTRL: IRQ_EN in bit 0, SOFT_RESET and the reserved bits as zero (10_state.md R24). -/
def State.ctrlWord (s : State) : Word := 0#63 ++ BitVec.ofBool s.irqEn

/-- A read of STATUS, the fields of 10_state.md R26 from bit 63 down to bit 0. -/
def State.statusWord (s : State) : Word :=
  0#44 ++ s.lastop ++ 0#4 ++ s.errcode ++ 0#4 ++ BitVec.ofBool s.ovr ++ BitVec.ofBool s.err
    ++ BitVec.ofBool s.done ++ BitVec.ofBool s.busy

/-- The irq output, derived and not stored (10_state.md R42, 60_exceptions.md R171). -/
def State.irq (s : State) : Bool := s.irqEn && s.done

/-- A STATUS write: W1C of DONE, of ERR with ERRCODE, and of OVR (10_state.md R32). -/
def State.clearStatus (s : State) (v : Word) : State :=
  { s with
    done    := s.done && !v[1]
    err     := s.err && !v[2]
    errcode := if v[2] then 0#4 else s.errcode
    ovr     := s.ovr && !v[3] }

end Sys2Proof.Machine
end

