-- ==== Sys2Proof/Machine/Operands.lean ====
section
/-! DEFINITION. Operand registers and latched operands: the width rule of 10_state.md R35 and the operand assembly
of 30_encoding.md R82. -/

namespace Sys2Proof.Machine

/-- What a W-bit register holds of the number n: its bits [W-1:0] (00_scope.md R10, 10_state.md R35). -/
def fitWord (c : Config) (n : Nat) : Word := BitVec.ofNat 64 (n % 2 ^ c.width)

/-- The copies of OPA, OPB and OPM taken at the accept of a command (40_command_lifecycle.md R104). -/
def State.latchOperands (s : State) (op : Instr) : Latch :=
  { op := op, a := s.opa, b := s.opb, m := s.opm }

/-- h.A as the natural number it is (30_encoding.md R82). -/
def Latch.operandA (h : Latch) : Nat := h.a.toNat

/-- h.B as the natural number it is (30_encoding.md R82). -/
def Latch.operandB (h : Latch) : Nat := h.b.toNat

/-- h.M as the natural number it is (30_encoding.md R82). -/
def Latch.operandM (h : Latch) : Nat := h.m.toNat

end Sys2Proof.Machine
end

