-- ==== Sys2Proof/Machine/Ops.lean ====
section
/-! DEFINITION. The shared operations: block reset, the command lifecycle (accept, start, overrun, the two commits),
the loop the commands share, and the register window as bus transactions reach it. -/

namespace Sys2Proof.Machine

/-! ### Reset -/

/-- BlockReset() (70_reset_and_hazards.md R191, 10_state.md R43). The command in flight is discarded (R112). W and
BASE, the host fault record (60_exceptions.md R167) and the events still to come are no state of the block. -/
def State.blockReset (s : State) : State :=
  { s with
    irqEn    := false
    busy     := false
    done     := false
    err      := false
    ovr      := false
    errcode  := 0#4
    lastop   := 0#4
    opa      := 0#64
    opb      := 0#64
    opm      := 0#64
    result   := 0#64
    steps    := 0#64
    inflight := none }

/-! ### The command lifecycle -/

/-- Overrun: the word is dropped and only OVR is set (40_command_lifecycle.md R101). -/
def State.overrun (s : State) : State := { s with ovr := true }

/-- Accept: LASTOP is recorded, DONE, ERR and ERRCODE are cleared (40_command_lifecycle.md R102). -/
def State.accept (s : State) (op : Nibble) : State :=
  { s with lastop := op, done := false, err := false, errcode := 0#4 }

/-- A legal command starts: the operands are latched and BUSY is set (40_command_lifecycle.md R104). -/
def State.startCommand (s : State) (op : Instr) : State :=
  { s with inflight := some (s.latchOperands op), busy := true }

/-- Successful commit of Ok(r, n) (40_command_lifecycle.md R106). -/
def State.succeed (s : State) (r n : Nat) : State :=
  { s with
    result   := fitWord s.cfg r
    steps    := fitWord s.cfg n
    busy     := false
    done     := true
    inflight := none }

/-- Error completion, the block's one way to take an error (60_exceptions.md R169): the error commit of
40_command_lifecycle.md R107, which the illegal command of R103 shares (BUSY is 0 there already). RESULT stays. -/
def State.fail (s : State) (e : CommandError) (n : Nat) : State :=
  { s with
    steps    := fitWord s.cfg n
    err      := true
    errcode  := e.code
    busy     := false
    done     := true
    inflight := none }

/-- The commit of what Exec returned (40_command_lifecycle.md R105 to R107). -/
def State.commit (s : State) : ExecResult → State
  | .ok r n  => s.succeed r n
  | .err e n => s.fail e n

/-- A command issue, checked in the order of 40_command_lifecycle.md R101 to R104 (60_exceptions.md R168). -/
def State.issueCommand (s : State) (v : Word) : State :=
  if s.busy then s.overrun
  else
    match decode v with
    | none    => (s.accept (opField v)).fail .illegalCommand 0
    | some op => (s.accept (opField v)).startCommand op

/-- The engine's completion step with `f` as Exec (40_command_lifecycle.md R105): enabled exactly when BUSY = 1. With
BUSY = 0 the engine does nothing (60_exceptions.md R179, log entry 4). -/
def completeWith (f : Latch → ExecResult) (s : State) : Host.Outcome State Fault Refusal :=
  if s.busy then
    match s.inflight with
    | some h => .next (s.commit (f h))
    | none   => .fault .latchesEmpty
  else .next s

/-! ### The loops of R120, R130 and R140 -/

/-- `while guard: body`, for at most `fuel` trips. -/
def whileLoop {α : Type} (guard : α → Bool) (body : α → α) : Nat → α → α
  | 0, x        => x
  | fuel + 1, x => if guard x then whileLoop guard body fuel (body x) else x

/-- 2 * W for the widest W: no loop of any command makes more trips (41_gcd.md R122, 42_modinv.md R134,
43_modpow.md R143; log entry 12). -/
def tripBudget : Nat := 128

/-! ### The register window -/

/-- off = address - BASE, for the addresses the block decodes (20_memory.md R61). -/
def windowOffset (c : Config) (addr : Nat) : Option Offset :=
  if c.base ≤ addr ∧ addr < c.base + 128 then some (BitVec.ofNat 7 (addr - c.base)) else none

/-- The register at an offset (10_state.md R22). `none` is a reserved word. -/
def regAt (off : Offset) : Option Reg :=
  if off = 0x00#7 then some .id
  else if off = 0x08#7 then some .ctrl
  else if off = 0x10#7 then some .status
  else if off = 0x18#7 then some .cmd
  else if off = 0x20#7 then some .opa
  else if off = 0x28#7 then some .opb
  else if off = 0x30#7 then some .opm
  else if off = 0x38#7 then some .result
  else if off = 0x40#7 then some .steps
  else none

/-- What a legal read of a register returns (10_state.md R23, R24, R26, R33, R35 to R37). -/
def State.readReg (s : State) : Reg → Word
  | .id     => idWord s.cfg
  | .ctrl   => s.ctrlWord
  | .status => s.statusWord
  | .cmd    => 0#64
  | .opa    => s.opa
  | .opb    => s.opb
  | .opm    => s.opm
  | .result => s.result
  | .steps  => s.steps

/-- A CTRL write: a block reset, or a write of IRQ_EN (10_state.md R25). -/
def State.writeCtrl (s : State) (v : Word) : State :=
  if v[1] then s.blockReset else { s with irqEn := v[0] }

/-- A legal write of a register (20_memory.md R65). ID, RESULT and STEPS ignore it (10_state.md R23, R36, R37). -/
def State.writeReg (s : State) (v : Word) : Reg → State
  | .id     => s
  | .ctrl   => s.writeCtrl v
  | .status => s.clearStatus v
  | .cmd    => s.issueCommand v
  | .opa    => { s with opa := fitWord s.cfg v.toNat }
  | .opb    => { s with opb := fitWord s.cfg v.toNat }
  | .opm    => { s with opm := fitWord s.cfg v.toNat }
  | .result => s
  | .steps  => s

/-- The 64-bit word at an offset; a reserved word reads 0 (20_memory.md R64). -/
def State.readWord (s : State) (off : Offset) : Word :=
  match regAt off with
  | some r => s.readReg r
  | none   => 0#64

/-- A write of the word at an offset; a reserved word ignores it (20_memory.md R64). -/
def State.writeWord (s : State) (off : Offset) (v : Word) : State :=
  match regAt off with
  | some r => s.writeReg v r
  | none   => s

/-- The port answers r in this step (10_state.md R21, log entry 9). -/
def State.respond (s : State) (r : Option Response) : State := { s with response := r }

/-- A legal access: 8 bytes, off mod 8 = 0 (20_memory.md R62). -/
def legalAccess (off : Offset) (size : Nat) : Bool := size == 8 && off.toNat % 8 == 0

/-- An access that is not legal: an ERROR response, a host fault on record, no state of the block changed
(20_memory.md R62, 60_exceptions.md R167, log entry 8). -/
def State.busError (s : State) : State := { s with response := some .error, hostFault := true }

/-- MemRead(off, size) (00_scope.md R13, 20_memory.md R62, R65, R66). -/
def State.memRead (s : State) (off : Offset) (size : Nat) : State :=
  if legalAccess off size then s.respond (some (.okayData (s.readWord off))) else s.busError

/-- MemWrite(off, size, v) (00_scope.md R13, 20_memory.md R62, R65, R66). -/
def State.memWrite (s : State) (off : Offset) (size : Nat) (v : Word) : State :=
  if legalAccess off size then (s.writeWord off v).respond (some .okay) else s.busError

/-- A host transaction as the bus brings it. An address outside the window does not reach the block (20_memory.md
R61, log entry 10). -/
def State.transact (s : State) : Transaction → State
  | .read addr size =>
    match windowOffset s.cfg addr with
    | some off => s.memRead off size
    | none     => s
  | .write addr size v =>
    match windowOffset s.cfg addr with
    | some off => s.memWrite off size v
    | none     => s

end Sys2Proof.Machine
end

