-- ==== Sys2Proof/Machine/Gcd.lean ====
section
/-! DEFINITION. GCD, the Euclidean algorithm (41_gcd.md). -/

namespace Sys2Proof.Machine

/-- The working registers A, B and CNT of 41_gcd.md R120 (10_state.md R39). -/
structure GcdRegs where
  a   : Nat
  b   : Nat
  cnt : Nat
  deriving DecidableEq, Repr

/-- `a <- A; b <- B; cnt <- 0` (41_gcd.md R120). -/
def gcdStart (a b : Nat) : GcdRegs := { a := a, b := b, cnt := 0 }

/-- `b != 0`. -/
def gcdGuard (w : GcdRegs) : Bool := w.b != 0

/-- One trip of the loop of 41_gcd.md R120. -/
def gcdTrip (w : GcdRegs) : GcdRegs := { a := w.b, b := w.a % w.b, cnt := w.cnt + 1 }

/-- ExecGcd (41_gcd.md R120). It never fails. -/
def gcdResult (a b : Nat) : ExecResult :=
  let w := whileLoop gcdGuard gcdTrip tripBudget (gcdStart a b)
  .ok w.a w.cnt

/-- GCD: its completion (41_gcd.md R120, 40_command_lifecycle.md R108). h.M is ignored. -/
def execGcd (s : State) : Host.Outcome State Fault Refusal :=
  completeWith (fun h => gcdResult h.operandA h.operandB) s

end Sys2Proof.Machine
end

