-- ==== Sys2Proof/Machine/Modinv.lean ====
section
/-! DEFINITION. MODINV, the inverse by the extended Euclidean algorithm (42_modinv.md). -/

namespace Sys2Proof.Machine

/-- The working registers T, NEWT (signed), R, NEWR and CNT of 42_modinv.md R130 (10_state.md R39). T and NEWT are
exact integers (R133). -/
structure InvRegs where
  t    : Int
  newt : Int
  r    : Nat
  newr : Nat
  cnt  : Nat
  deriving DecidableEq, Repr

/-- `T <- 0; NEWT <- 1; R <- n; NEWR <- A; cnt <- 0` (42_modinv.md R130). -/
def invStart (a n : Nat) : InvRegs := { t := 0, newt := 1, r := n, newr := a, cnt := 0 }

/-- `NEWR != 0`. -/
def invGuard (w : InvRegs) : Bool := w.newr != 0

/-- One trip of the loop of 42_modinv.md R130, with q = R div NEWR. R - q * NEWR is never negative, so the natural
subtraction is the spec's. -/
def invTrip (w : InvRegs) : InvRegs :=
  { t    := w.newt
    newt := w.t - ((w.r / w.newr : Nat) : Int) * w.newt
    r    := w.newr
    newr := w.r - w.r / w.newr * w.newr
    cnt  := w.cnt + 1 }

/-- The normalization after the loop: n added once to a negative T, then T mod n (42_modinv.md R130, R131). -/
def normalizeInverse (t : Int) (n : Nat) : Nat :=
  ((if t < 0 then t + (n : Int) else t) % (n : Int)).toNat

/-- ExecModInv (42_modinv.md R130). -/
def modinvResult (a n : Nat) : ExecResult :=
  if n = 0 then .err .invalidModulus 0
  else
    let w := whileLoop invGuard invTrip tripBudget (invStart a n)
    if w.r ≠ 1 then .err .noInverse w.cnt else .ok (normalizeInverse w.t n) w.cnt

/-- MODINV: its completion (42_modinv.md R130, 40_command_lifecycle.md R108). h.B is ignored. -/
def execModinv (s : State) : Host.Outcome State Fault Refusal :=
  completeWith (fun h => modinvResult h.operandA h.operandM) s

end Sys2Proof.Machine
end

