-- ==== Sys2Proof/Machine/ModmulModadd.lean ====
section
/-! DEFINITION. MODADD and MODMUL (44_modmul_modadd.md). -/

namespace Sys2Proof.Machine

/-- The exact product reduced (44_modmul_modadd.md R152), shared by MODMUL and MODPOW. Callers exclude m = 0. -/
def mulmod (x y m : Nat) : Nat := x * y % m

/-- ExecModAdd (44_modmul_modadd.md R150): the sum is exact, no carry is lost. -/
def modaddResult (a b m : Nat) : ExecResult :=
  if m = 0 then .err .invalidModulus 0 else .ok ((a + b) % m) 1

/-- ExecModMul (44_modmul_modadd.md R151). -/
def modmulResult (a b m : Nat) : ExecResult :=
  if m = 0 then .err .invalidModulus 0 else .ok (mulmod a b m) 1

/-- MODADD: its completion (44_modmul_modadd.md R150, 40_command_lifecycle.md R108). -/
def execModadd (s : State) : Host.Outcome State Fault Refusal :=
  completeWith (fun h => modaddResult h.operandA h.operandB h.operandM) s

/-- MODMUL: its completion (44_modmul_modadd.md R151, 40_command_lifecycle.md R108). -/
def execModmul (s : State) : Host.Outcome State Fault Refusal :=
  completeWith (fun h => modmulResult h.operandA h.operandB h.operandM) s

end Sys2Proof.Machine
end

