-- ==== Sys2Proof/Machine/Modpow.lean ====
section
/-! DEFINITION. MODPOW, right-to-left binary exponentiation (43_modpow.md). -/

namespace Sys2Proof.Machine

/-- The working registers ACC, BASE, EXP and CNT of 43_modpow.md R140 (10_state.md R39). -/
structure PowRegs where
  acc  : Nat
  base : Nat
  exp  : Nat
  cnt  : Nat
  deriving DecidableEq, Repr

/-- `ACC <- 1; BASE <- BASE0; EXP <- E; cnt <- 0` (43_modpow.md R140). -/
def powStart (base e : Nat) : PowRegs := { acc := 1, base := base, exp := e, cnt := 0 }

/-- `EXP != 0`. -/
def powGuard (w : PowRegs) : Bool := w.exp != 0

/-- One trip of the loop of 43_modpow.md R140: EXP[0] is the exponent mod 2, and the logical shift right by one is
its half. Every trip squares BASE, the last one included. -/
def powTrip (m : Nat) (w : PowRegs) : PowRegs :=
  { acc  := if w.exp % 2 = 1 then mulmod w.acc w.base m else w.acc
    base := mulmod w.base w.base m
    exp  := w.exp / 2
    cnt  := w.cnt + 1 }

/-- ExecModPow (43_modpow.md R140); the order of the special cases is R141's. -/
def modpowResult (base e m : Nat) : ExecResult :=
  if m = 0 then .err .invalidModulus 0
  else if m = 1 then .ok 0 0
  else
    let w := whileLoop powGuard (powTrip m) tripBudget (powStart base e)
    .ok w.acc w.cnt

/-- MODPOW: its completion (43_modpow.md R140, 40_command_lifecycle.md R108). -/
def execModpow (s : State) : Host.Outcome State Fault Refusal :=
  completeWith (fun h => modpowResult h.operandA h.operandB h.operandM) s

end Sys2Proof.Machine
end

