-- ==== Sys2Proof/Machine/Dispatch.lean ====
section
/-! DEFINITION. The dispatch of 40_command_lifecycle.md R108: one arm per command, no default arm. exec i is the
engine's completion of command i on the latched operands (log entry 6). -/

namespace Sys2Proof.Machine

/-- The completion of command i (40_command_lifecycle.md R105, R108). -/
def exec (i : Instr) (s : State) : Host.Outcome State Fault Refusal :=
  match i with
  | .modadd => Sys2Proof.Machine.execModadd s
  | .modmul => Sys2Proof.Machine.execModmul s
  | .modpow => Sys2Proof.Machine.execModpow s
  | .gcd => Sys2Proof.Machine.execGcd s
  | .modinv => Sys2Proof.Machine.execModinv s

end Sys2Proof.Machine
end

