-- ==== Sys2Proof/Machine/Engine.lean ====
section
/-! DEFINITION. What each kind of event does (00_scope.md R19), and the command word as the engine takes it up. -/

namespace Sys2Proof.Machine

/-- The engine's completion step (40_command_lifecycle.md R105): exec of the latched opcode. With nothing in flight the
engine does nothing (R179, log entry 4); BUSY = 1 with nothing latched is no state of R45 (log entry 7). -/
def State.completion (s : State) : Host.Outcome State Fault Refusal :=
  match s.inflight with
  | some h => exec h.op s
  | none   => if s.busy then .fault .latchesEmpty else .next s

/-- One event, atomically (00_scope.md R19). -/
def State.perform (s : State) : Event → Host.Outcome State Fault Refusal
  | .bus t         => .next (s.transact t)
  | .completion    => s.completion
  | .hardwareReset => .next s.blockReset

/-- s with these events to come (log entry 3). -/
def State.schedule (s : State) (rest : List Event) : State := { s with agenda := rest }

/-- The next step: the oldest event of the agenda, with the port's last response gone. With no event to come the
engine is the one agent left, and it completes what is in flight (40_command_lifecycle.md R109, log entry 3). -/
def State.advance (s : State) : Host.Outcome State Fault Refusal :=
  match s.agenda with
  | []        => (s.respond none).completion
  | e :: rest => ((s.respond none).schedule rest).perform e

/-- The state after the host wrote the command word v to an idle block and the engine is to move next: the word is
accepted and its operands are latched (40_command_lifecycle.md R102, R104, log entry 16). -/
def State.placeCommand (s : State) (v : Word) : State :=
  (State.issueCommand { s with busy := false, inflight := none } v).schedule (.completion :: s.agenda)

end Sys2Proof.Machine
end

