-- ==== Sys2Proof/Machine/Step.lean ====
section
/-! DEFINITION. One step of the machine, and where the host places a command for it. -/

namespace Sys2Proof.Machine

/-- One step: the next event of the agenda, or the engine's own move (00_scope.md R19). -/
def step (s : State) : Host.Outcome State Fault Refusal := s.advance

/-- s with the command word w (its low nbits bits) accepted, so that the very next step runs it (log entry 16). -/
def State.withFetchWord (s : State) (nbits w : Nat) : State := s.placeCommand (BitVec.ofNat 64 (w % 2 ^ nbits))

end Sys2Proof.Machine
end

