-- ==== Sys2Proof/Safety.lean ====
section
/-! DEFINITION. The words claims are stated in: the invariants of 10_state.md R44 and R45, a run without a bus error,
and the two commits of 40_command_lifecycle.md R106 and R107 written out as the registers they leave. -/

namespace Sys2Proof.Machine

/-- A value that fits the W bits of a register (00_scope.md R9, R10). -/
abbrev Fits (c : Config) (v : Word) : Prop := v.toNat < 2 ^ c.width

/-- The four invariants of 10_state.md R44. -/
abbrev State.StatusOk (s : State) : Prop :=
  (s.busy = true → s.done = false ∧ s.err = false ∧ s.errcode = 0#4) ∧
  (s.err = true ↔ s.errcode ≠ 0#4) ∧
  s.errcode.toNat ≤ 3 ∧
  (s.busy = true → 1 ≤ s.lastop.toNat ∧ s.lastop.toNat ≤ 5)

/-- Every W-bit register holds a W-bit value (10_state.md R35 to R37). -/
abbrev State.WidthOk (s : State) : Prop :=
  Fits s.cfg s.opa ∧ Fits s.cfg s.opb ∧ Fits s.cfg s.opm ∧ Fits s.cfg s.result ∧ Fits s.cfg s.steps

/-- A latched command: W-bit operands (10_state.md R38), and LASTOP is its opcode (R31, R104). -/
abbrev State.LatchOk (s : State) (h : Latch) : Prop :=
  Fits s.cfg h.a ∧ Fits s.cfg h.b ∧ Fits s.cfg h.m ∧ s.lastop = opcode h.op

/-- The invariant of every reachable state: a legal configuration (00_scope.md R8), R44's four clauses, R45's
"inflight is not none iff BUSY = 1", and registers of W bits. -/
abbrev State.Inv (s : State) : Prop :=
  s.cfg.wellFormed = true ∧ s.StatusOk ∧ s.inflight.isSome = s.busy ∧ s.WidthOk ∧
  s.inflight.all (fun h => decide (s.LatchOk h)) = true

/-- Command h is in flight: BUSY = 1 with h.OP, h.A, h.B and h.M valid (10_state.md R40). -/
abbrev State.InFlight (s : State) (h : Latch) : Prop := s.busy = true ∧ s.inflight = some h

/-- The run so far has had no bus error, the premise of every claim about a host (60_exceptions.md R167). -/
abbrev State.BusErrorFree (s : State) : Prop := s.hostFault = false

/-- The machine after the commit of Ok(r, n), register by register (40_command_lifecycle.md R106): RESULT, STEPS,
BUSY and DONE are written, the latches are given up, nothing else changes. -/
def State.afterOk (s : State) (r n : Nat) : State :=
  { s with
    result := BitVec.ofNat 64 r, steps := BitVec.ofNat 64 n, busy := false, done := true, inflight := none }

/-- The machine after the commit of Err(code, n), register by register (40_command_lifecycle.md R107): STEPS, ERR,
ERRCODE, BUSY and DONE are written, the latches are given up, nothing else changes. -/
def State.afterErr (s : State) (code : Nibble) (n : Nat) : State :=
  { s with
    steps := BitVec.ofNat 64 n, err := true, errcode := code, busy := false, done := true, inflight := none }

/-- The bus address of a transaction. -/
def Transaction.addr : Transaction → Nat
  | .read addr _    => addr
  | .write addr _ _ => addr

/-- The size in bytes of a transaction. -/
def Transaction.size : Transaction → Nat
  | .read _ size    => size
  | .write _ size _ => size

/-- A transaction the block has no reason to answer with ERROR (20_memory.md R61, R62): 8 bytes at a multiple of 8 from
BASE, or none of the block's addresses. -/
def Transaction.isLegal (c : Config) (tr : Transaction) : Bool :=
  decide (tr.addr < c.base) || decide (c.base + 128 ≤ tr.addr) ||
    (tr.size == 8 && (tr.addr - c.base) % 8 == 0)

/-- A CMD write among the events to come (40_command_lifecycle.md R100). -/
def Event.isIssue (c : Config) : Event → Bool
  | .bus (.write addr size _) => addr == c.base + 0x18 && size == 8
  | _ => false

/-- A CTRL write with SOFT_RESET = 1, or the hardware reset (70_reset_and_hazards.md R190). -/
def Event.isReset (c : Config) : Event → Bool
  | .bus (.write addr size v) => addr == c.base + 0x08 && size == 8 && v[1]
  | .hardwareReset => true
  | _ => false

end Sys2Proof.Machine
end

