-- ==== Sys2Proof/Certificates/Slice0/Obligations.lean ====
section
/-! DEFINITION. The statements for the provers, in the order of the spec's files. Each docstring names the rules of
spec/ it formalises. -/

open Sys2Proof Sys2Proof.Machine

/-! ### 30_encoding.md -/

/-- Sanity: words written out from the opcode map (30_encoding.md R83, R84, R89; vectors R-9 to R-12 of
95_test_vectors.md). -/
def Obligations.TableWordsDecode : Prop :=
  decode 0x0000000000000001#64 = some .modadd ∧
  decode 0x0000000000000002#64 = some .modmul ∧
  decode 0x0000000000000003#64 = some .modpow ∧
  decode 0x0000000000000004#64 = some .gcd ∧
  decode 0x0000000000000005#64 = some .modinv ∧
  decode 0x0000000000000000#64 = none ∧
  decode 0x0000000000000006#64 = none ∧
  decode 0x000000000000000F#64 = none ∧
  decode 0x0000000000000013#64 = none ∧
  decode 0x8000000000000004#64 = none

/-- The decoder is the opcode map on every 64-bit word: OP is the low four bits, RSVD all the others
(30_encoding.md R83, R85). -/
def Obligations.DecoderIsTheOpcodeMap : Prop :=
  ∀ v : Word,
    (decode v = some .modadd ↔ v.toNat = 1) ∧
    (decode v = some .modmul ↔ v.toNat = 2) ∧
    (decode v = some .modpow ↔ v.toNat = 3) ∧
    (decode v = some .gcd ↔ v.toNat = 4) ∧
    (decode v = some .modinv ↔ v.toNat = 5) ∧
    (decode v = none ↔ v.toNat / 16 ≠ 0 ∨ v.toNat % 16 = 0 ∨ 6 ≤ v.toNat % 16)

/-- Decode and encode agree on byte strings: a byte string is a command exactly when it is that command's eight bytes
(30_encoding.md R80, R81, R83, R85; 20_memory.md R63). -/
def Obligations.BytesDecodeIffEncoded : Prop :=
  ∀ (bs : List Byte) (i : Instr), i.wellFormed = true → (decodeBytes bs = some i ↔ bs = encodeBytes i)

/-- Byte k of a word carries its bits [8k+7:8k], and the eight bytes from the lowest address up are the word's number,
least significant byte first (20_memory.md R63). -/
def Obligations.ByteLanesLittleEndian : Prop :=
  ∀ v : Word,
    (∀ k i : Nat, k < 8 → i < 8 → (byteLane v k).getLsbD i = v.getLsbD (8 * k + i)) ∧
    (wordBytes v).length = 8 ∧
    (∀ k : Nat, k < 8 → (wordBytes v)[k]? = some (byteLane v k)) ∧
    bytesToNat (wordBytes v) = v.toNat

/-! ### 00_scope.md R19: the step -/

/-- A step runs the decoded command: a legal word written to CMD of an idle block is accepted by one step, and the
engine's next step is exec of the decoded command on the operands OPA, OPB and OPM held (40_command_lifecycle.md R102,
R104, R105, R108; that the engine moves when no event is left is the model's choice, log entry 3). -/
def Obligations.StepRunsDecodedCommand : Prop :=
  ∀ (s : State) (v : Word) (i : Instr) (rest : List Event),
    s.busy = false → decode v = some i →
    (s.agenda = .bus (.write (s.cfg.base + 0x18) 8 v) :: .completion :: rest ∨
      (rest = [] ∧ s.agenda = [.bus (.write (s.cfg.base + 0x18) 8 v)])) →
    ∃ s₁ : State, step s = .next s₁ ∧
      s₁.InFlight { op := i, a := s.opa, b := s.opb, m := s.opm } ∧
      step s₁ = exec i { s₁ with agenda := rest, response := none }

/-- A command placed for the next step is run by it, on the operand registers' values, with every register but the
ones the accept writes as it was (30_encoding.md R80, 40_command_lifecycle.md R102, R104; log entry 16). -/
def Obligations.PlacedCommandRunsNext : Prop :=
  ∀ (s : State) (v : Word) (i : Instr), decode v = some i →
    step (s.withFetchWord 64 v.toNat) =
      exec i { s with
        lastop := opcode i, done := false, err := false, errcode := 0#4, busy := true
        inflight := some { op := i, a := s.opa, b := s.opb, m := s.opm }
        response := none }

/-- The three kinds of step (00_scope.md R19): a transaction, a completion, a hardware reset. A completion that is
scheduled while nothing is in flight does nothing (model's choice, log entry 4). The agenda and the cleared response are
the model's own fields (log entries 3 and 9). -/
def Obligations.StepTakesTheNextEvent : Prop :=
  ∀ (s : State) (rest : List Event),
    (∀ tr, s.agenda = .bus tr :: rest →
      step s = .next (State.transact { s with agenda := rest, response := none } tr)) ∧
    (∀ h, s.agenda = .completion :: rest → s.InFlight h →
      step s = exec h.op { s with agenda := rest, response := none }) ∧
    (s.agenda = .completion :: rest → s.busy = false →
      step s = .next { s with agenda := rest, response := none }) ∧
    (s.agenda = .hardwareReset :: rest →
      step s = .next (State.blockReset { s with agenda := rest, response := none }))

/-! ### 40_command_lifecycle.md: issue and accept -/

/-- A CMD write while BUSY = 1 sets OVR and changes nothing else (40_command_lifecycle.md R101). -/
def Obligations.OverrunDropsTheWord : Prop :=
  ∀ (s : State) (v : Word), s.busy = true →
    s.memWrite 0x18#7 8 v = { s with ovr := true, response := some .okay }

/-- An illegal word written to CMD of an idle block completes at once (40_command_lifecycle.md R102, R103):
LASTOP = CMD[3:0], STEPS = 0, ERR = 1, ERRCODE = 1, DONE = 1, and BUSY stays 0. -/
def Obligations.IllegalCommandCompletesAtOnce : Prop :=
  ∀ (s : State) (v : Word), s.Inv → s.busy = false → decode v = none →
    s.memWrite 0x18#7 8 v =
      { s with
        lastop := BitVec.ofNat 4 v.toNat, steps := 0#64, err := true, errcode := 1#4, done := true
        response := some .okay }

/-- A legal word written to CMD of an idle block is accepted: LASTOP recorded, DONE, ERR and ERRCODE cleared, operands
latched, BUSY set, nothing else changed, and later writes of OPA, OPB or OPM leave the latches as they are
(40_command_lifecycle.md R102, R104). -/
def Obligations.LegalCommandLatchesOperands : Prop :=
  ∀ (s : State) (v : Word) (op : Instr), s.busy = false → decode v = some op →
    s.memWrite 0x18#7 8 v =
      { s with
        lastop := BitVec.ofNat 4 v.toNat, done := false, err := false, errcode := 0#4
        inflight := some { op := op, a := s.opa, b := s.opb, m := s.opm }
        busy := true, response := some .okay } ∧
    ∀ (off : Offset) (w : Word), off = 0x20#7 ∨ off = 0x28#7 ∨ off = 0x30#7 →
      ((s.memWrite 0x18#7 8 v).memWrite off 8 w).InFlight { op := op, a := s.opa, b := s.opb, m := s.opm }

/-! ### 40_command_lifecycle.md: the completion -/

/-- Every command in flight completes: BUSY falls, DONE rises, the latches are given up (40_command_lifecycle.md R105
to R107). -/
def Obligations.CommandCompletes : Prop :=
  ∀ (i : Instr) (s : State) (h : Latch), s.InFlight h →
    ∃ t : State, exec i s = .next t ∧ t.busy = false ∧ t.done = true ∧ t.inflight = none

/-- With BUSY = 0 the completion step does nothing (enabled exactly when BUSY = 1: 40_command_lifecycle.md R105; "it
does nothing until a host write arrives": 60_exceptions.md R179; model's reading, log entry 4). -/
def Obligations.IdleEngineDoesNothing : Prop :=
  ∀ (i : Instr) (s : State), s.busy = false → exec i s = .next s

/-- The frame of all five commands: only RESULT, STEPS, STATUS's BUSY, DONE, ERR and ERRCODE and the latches may change,
and every word of the window but STATUS, RESULT and STEPS reads as before (44_modmul_modadd.md R154,
40_command_lifecycle.md R106, R107). -/
def Obligations.CommandFrame : Prop :=
  ∀ (i : Instr) (s t : State), exec i s = .next t →
    t.cfg = s.cfg ∧ t.irqEn = s.irqEn ∧ t.ovr = s.ovr ∧ t.lastop = s.lastop ∧
    t.opa = s.opa ∧ t.opb = s.opb ∧ t.opm = s.opm ∧
    t.response = s.response ∧ t.hostFault = s.hostFault ∧ t.agenda = s.agenda ∧
    (∀ off : Offset, off ≠ 0x10#7 → off ≠ 0x38#7 → off ≠ 0x40#7 → t.readWord off = s.readWord off) ∧
    (t.err = true → s.err = false → t.result = s.result)

/-- The outcome depends on the opcode and the latched operands alone, and on W (40_command_lifecycle.md R105): two
machines that agree on those commit the same step count, error and, on success, result, whatever else they hold. -/
def Obligations.OutcomeDependsOnlyOnLatches : Prop :=
  ∀ (i : Instr) (s s' t t' : State) (h : Latch), s.Inv → s'.Inv → s.cfg.width = s'.cfg.width →
    s.InFlight h → s'.InFlight h → exec i s = .next t → exec i s' = .next t' →
    t.steps = t'.steps ∧ t.err = t'.err ∧ t.errcode = t'.errcode ∧ (t.err = false → t.result = t'.result)

/-- GCD ignores h.M and MODINV ignores h.B (30_encoding.md R82): the whole next state is the same for every value. -/
def Obligations.IgnoredOperands : Prop :=
  ∀ (s : State) (h : Latch) (x : Word), s.InFlight h →
    exec .gcd { s with inflight := some { h with m := x } } = exec .gcd s ∧
    exec .modinv { s with inflight := some { h with b := x } } = exec .modinv s

/-- Which error a command completes with, with the priority of 60_exceptions.md R168 (R160, R162, R163): code 2 exactly
when the latched modulus is 0 and the command is not GCD, else code 3 exactly when MODINV's operands are not coprime,
else none; ERR says whether there is one, and an error leaves RESULT as it was. -/
def Obligations.CommandErrorCodes : Prop :=
  ∀ (i : Instr) (s : State) (h : Latch), s.Inv → s.InFlight h →
    ∃ t : State, exec i s = .next t ∧
      t.errcode =
        (if i ≠ .gcd ∧ h.m = 0#64 then 2#4
         else if i = .modinv ∧ Nat.gcd h.a.toNat h.m.toNat ≠ 1 then 3#4 else 0#4) ∧
      t.err = (t.errcode != 0#4) ∧
      (t.err = true → t.result = s.result)

/-- Every completion leaves a step count of at most 2 * W in STEPS (10_state.md R37, 41_gcd.md R122, 42_modinv.md R134,
43_modpow.md R143). -/
def Obligations.StepCountBound : Prop :=
  ∀ (i : Instr) (s : State) (h : Latch), s.Inv → s.InFlight h →
    ∃ t : State, exec i s = .next t ∧ t.steps.toNat ≤ 2 * s.cfg.width

/-- Every modular result lies in [0, M), and GCD's in [0, max(A, B)] (44_modmul_modadd.md R153). -/
def Obligations.ResultInRange : Prop :=
  ∀ (i : Instr) (s t : State) (h : Latch), s.Inv → s.InFlight h → exec i s = .next t → t.err = false →
    (i = .gcd → t.result.toNat ≤ max h.a.toNat h.b.toNat) ∧ (i ≠ .gcd → t.result.toNat < h.m.toNat)

/-! ### 44_modmul_modadd.md -/

/-- MODADD (44_modmul_modadd.md R150): the word 0x1 starts it on OPA, OPB and OPM; the completion commits the exact sum mod M with STEPS 1, or INVALID_MODULUS with STEPS 0. -/
def Obligations.ModaddResult : Prop :=
  (∀ s : State, s.busy = false →
    (s.memWrite 0x18#7 8 0x1#64).InFlight { op := .modadd, a := s.opa, b := s.opb, m := s.opm }) ∧
  ∀ (s : State) (h : Latch), s.Inv → s.InFlight h →
    exec .modadd s = .next
      (if h.m.toNat = 0 then s.afterErr 2#4 0
       else s.afterOk ((h.a.toNat + h.b.toNat) % h.m.toNat) 1)

/-- MODMUL (44_modmul_modadd.md R151, R152): the word 0x2 starts it on OPA, OPB and OPM; the completion commits the exact
product mod M with STEPS 1, or INVALID_MODULUS with STEPS 0. -/
def Obligations.ModmulResult : Prop :=
  (∀ s : State, s.busy = false →
    (s.memWrite 0x18#7 8 0x2#64).InFlight { op := .modmul, a := s.opa, b := s.opb, m := s.opm }) ∧
  ∀ (s : State) (h : Latch), s.Inv → s.InFlight h →
    exec .modmul s = .next
      (if h.m.toNat = 0 then s.afterErr 2#4 0
       else s.afterOk (h.a.toNat * h.b.toNat % h.m.toNat) 1)

/-! ### 43_modpow.md -/

/-- MODPOW (43_modpow.md R140): the word 0x3 starts it on OPA, OPB and OPM, and it runs the rule's loop to its end, with
no bound of the model's own: M = 0 is an error, M = 1 gives 0 with STEPS 0, and otherwise k = bitlen(E) trips, at most W,
are made, before which EXP is never 0 and after which it is 0, and the commit is of ACC, less than M, and k. -/
def Obligations.ModpowRunsItsLoop : Prop :=
  (∀ s : State, s.busy = false →
    (s.memWrite 0x18#7 8 0x3#64).InFlight { op := .modpow, a := s.opa, b := s.opb, m := s.opm }) ∧
  ∀ (s : State) (h : Latch), s.Inv → s.InFlight h →
    (h.m.toNat = 0 → exec .modpow s = .next (s.afterErr 2#4 0)) ∧
    (h.m.toNat = 1 → exec .modpow s = .next (s.afterOk 0 0)) ∧
    (2 ≤ h.m.toNat →
      ∃ k ≤ s.cfg.width, k = Nat.size h.b.toNat ∧
        (∀ j < k, ((powTrip h.m.toNat)^[j] (powStart h.a.toNat h.b.toNat)).exp ≠ 0) ∧
        ((powTrip h.m.toNat)^[k] (powStart h.a.toNat h.b.toNat)).exp = 0 ∧
        ((powTrip h.m.toNat)^[k] (powStart h.a.toNat h.b.toNat)).acc < h.m.toNat ∧
        exec .modpow s =
          .next (s.afterOk ((powTrip h.m.toNat)^[k] (powStart h.a.toNat h.b.toNat)).acc k))

/-- MODPOW is the exact power (43_modpow.md R141, R143, R144): M = 0 is INVALID_MODULUS, M = 1 gives 0 with STEPS 0, and
every M >= 2 gives BASE0^E mod M (0^0 = 1) with STEPS = bitlen(E). -/
def Obligations.ModpowIsExactPower : Prop :=
  ∀ (s : State) (h : Latch), s.Inv → s.InFlight h →
    exec .modpow s = .next
      (if h.m.toNat = 0 then s.afterErr 2#4 0
       else if h.m.toNat = 1 then s.afterOk 0 0
       else s.afterOk (h.a.toNat ^ h.b.toNat % h.m.toNat) (Nat.size h.b.toNat)) ∧
    Nat.size h.b.toNat ≤ s.cfg.width

/-! ### 41_gcd.md -/

/-- GCD (41_gcd.md R120): the word 0x4 starts it on OPA and OPB, and it runs the rule's loop to its end, with no bound of
the model's own: there is a trip count k, at most 2 * W (R122), before which b is never 0 and after which it is 0, and
the commit is of a, at most max(A, B), and k. It never fails. -/
def Obligations.GcdRunsItsLoop : Prop :=
  (∀ s : State, s.busy = false →
    (s.memWrite 0x18#7 8 0x4#64).InFlight { op := .gcd, a := s.opa, b := s.opb, m := s.opm }) ∧
  ∀ (s : State) (h : Latch), s.Inv → s.InFlight h →
    ∃ k ≤ 2 * s.cfg.width,
      (∀ j < k, (gcdTrip^[j] (gcdStart h.a.toNat h.b.toNat)).b ≠ 0) ∧
      (gcdTrip^[k] (gcdStart h.a.toNat h.b.toNat)).b = 0 ∧
      (gcdTrip^[k] (gcdStart h.a.toNat h.b.toNat)).a ≤ max h.a.toNat h.b.toNat ∧
      exec .gcd s = .next (s.afterOk (gcdTrip^[k] (gcdStart h.a.toNat h.b.toNat)).a k)

/-- GCD's result is the greatest common divisor, with gcd(0, 0) = 0 (41_gcd.md R121): it is commutative,
RESULT(A, 0) = A and RESULT(0, B) = B, and STEPS is not commutative (A = 18, B = 48 makes one trip more than
A = 48, B = 18). -/
def Obligations.GcdIsGreatestCommonDivisor : Prop :=
  (∀ (s : State) (h : Latch), s.Inv → s.InFlight h →
    (∃ k, exec .gcd s = .next (s.afterOk (Nat.gcd h.a.toNat h.b.toNat) k)) ∧
    (∃ k, exec .gcd { s with inflight := some { h with a := h.b, b := h.a } } =
      .next (s.afterOk (Nat.gcd h.a.toNat h.b.toNat) k)) ∧
    (h.b.toNat = 0 → exec .gcd s = .next (s.afterOk h.a.toNat 0)) ∧
    (h.a.toNat = 0 → ∃ k, exec .gcd s = .next (s.afterOk h.b.toNat k))) ∧
  gcdResult 48 18 = .ok 6 3 ∧ gcdResult 18 48 = .ok 6 4

/-! ### 42_modinv.md -/

/-- MODINV (42_modinv.md R130): the word 0x5 starts it on OPA and OPM, and it runs the rule's loop to its end, with no
bound of the model's own: n = 0 is an error before the loop; otherwise there is a trip count k, at most 2 * W (R134),
before which NEWR is never 0 and after which it is 0; then R = gcd(A, n) and T * A is R mod n; R other than 1 is
NO_INVERSE with STEPS k, and R = 1 commits T, n added once if it is negative, mod n. -/
def Obligations.ModinvRunsItsLoop : Prop :=
  (∀ s : State, s.busy = false →
    (s.memWrite 0x18#7 8 0x5#64).InFlight { op := .modinv, a := s.opa, b := s.opb, m := s.opm }) ∧
  ∀ (s : State) (h : Latch), s.Inv → s.InFlight h →
    (h.m.toNat = 0 → exec .modinv s = .next (s.afterErr 2#4 0)) ∧
    (h.m.toNat ≠ 0 →
      ∃ k ≤ 2 * s.cfg.width, ∃ w : InvRegs,
        w = invTrip^[k] (invStart h.a.toNat h.m.toNat) ∧
        (∀ j < k, (invTrip^[j] (invStart h.a.toNat h.m.toNat)).newr ≠ 0) ∧
        w.newr = 0 ∧ w.r = Nat.gcd h.a.toNat h.m.toNat ∧ (h.m.toNat : Int) ∣ w.t * h.a.toNat - w.r ∧
        exec .modinv s = .next
          (if w.r ≠ 1 then s.afterErr 3#4 k
           else s.afterOk ((if w.t < 0 then w.t + h.m.toNat else w.t) % (h.m.toNat : Int)).toNat k))

/-- MODINV inverts exactly what can be inverted (42_modinv.md R132, R135): for n >= 1 and gcd(A, n) = 1 it commits a t
with t < n and (A * t) mod n = 1 mod n (so 0 when n = 1), for n >= 1 and gcd(A, n) other than 1 it completes with
NO_INVERSE and RESULT unchanged. -/
def Obligations.ModinvIsInverse : Prop :=
  ∀ (s : State) (h : Latch), s.Inv → s.InFlight h → 1 ≤ h.m.toNat →
    ∃ k,
      (Nat.gcd h.a.toNat h.m.toNat = 1 →
        ∃ t, t < h.m.toNat ∧ h.a.toNat * t % h.m.toNat = 1 % h.m.toNat ∧
          exec .modinv s = .next (s.afterOk t k)) ∧
      (Nat.gcd h.a.toNat h.m.toNat ≠ 1 → exec .modinv s = .next (s.afterErr 3#4 k))

/-- The loop's integers stay within n (42_modinv.md R133): throughout the loop abs(T) <= n and abs(NEWT) <= n; and at
its end with R = 1, except for A = n = 1, the raw T lies strictly between -n and n (R131). -/
def Obligations.ModinvCoefficientsBounded : Prop :=
  ∀ a n k : Nat, 1 ≤ n →
    (∀ j < k, (invTrip^[j] (invStart a n)).newr ≠ 0) →
    |(invTrip^[k] (invStart a n)).t| ≤ (n : Int) ∧
    |(invTrip^[k] (invStart a n)).newt| ≤ (n : Int) ∧
    ((invTrip^[k] (invStart a n)).newr = 0 → (invTrip^[k] (invStart a n)).r = 1 → ¬(a = 1 ∧ n = 1) →
      -(n : Int) < (invTrip^[k] (invStart a n)).t ∧ (invTrip^[k] (invStart a n)).t < (n : Int))

/-- An unreduced operand (42_modinv.md R134): for A > n >= 1 the outcome is that of A mod n, with STEPS exactly 2
higher. -/
def Obligations.ModinvUnreducedOperand : Prop :=
  ∀ (s : State) (h : Latch), s.Inv → s.InFlight h → 1 ≤ h.m.toNat → h.m.toNat < h.a.toNat →
    ∃ t u : State, exec .modinv s = .next t ∧
      exec .modinv { s with inflight := some { h with a := BitVec.ofNat 64 (h.a.toNat % h.m.toNat) } } = .next u ∧
      t = { u with steps := BitVec.ofNat 64 (u.steps.toNat + 2) }

/-! ### 10_state.md: the registers -/

/-- ID (10_state.md R23): WIDTH = W, REV = 1, OPSUP = 0x003E with bit k set exactly when opcode k is legal, the rest 0;
in the reference configuration the whole word is 0x3E0140; a write is ignored with OKAY. -/
def Obligations.IdRegister : Prop :=
  ∀ s : State, s.cfg.wellFormed = true →
    (s.readWord 0x00#7).toNat % 2 ^ 8 = s.cfg.width ∧
    (s.readWord 0x00#7).toNat / 2 ^ 8 % 2 ^ 8 = 0x01 ∧
    (s.readWord 0x00#7).toNat / 2 ^ 16 % 2 ^ 16 = 0x003E ∧
    (∀ k < 16, (s.readWord 0x00#7).getLsbD (16 + k) = (decode (BitVec.ofNat 64 k)).isSome) ∧
    (s.readWord 0x00#7).toNat / 2 ^ 32 = 0 ∧
    (s.cfg.width = 64 → s.readWord 0x00#7 = 0x00000000003E0140#64) ∧
    (∀ v : Word, s.memWrite 0x00#7 8 v = { s with response := some .okay })

/-- CTRL (10_state.md R24, R25): a read is IRQ_EN in bit 0 and zero elsewhere; a write with bit 1 = 1 resets the block
whatever bit 0 is, and else sets IRQ_EN to bit 0; the other bits are ignored. The reset block holds 10_state.md R43's
values (70_reset_and_hazards.md R191). -/
def Obligations.CtrlRegister : Prop :=
  ∀ (s : State) (v : Word),
    (s.readWord 0x08#7).toNat = (if s.irqEn then 1 else 0) ∧
    s.memWrite 0x08#7 8 v =
      if v[1] then
        { State.resetWith s.cfg with response := some .okay, hostFault := s.hostFault, agenda := s.agenda }
      else { s with irqEn := v[0], response := some .okay }

/-- A STATUS read has every field of 10_state.md R26 in its place, and zero in the reserved bits. -/
def Obligations.StatusReads : Prop :=
  ∀ s : State,
    (s.readWord 0x10#7).getLsbD 0 = s.busy ∧
    (s.readWord 0x10#7).getLsbD 1 = s.done ∧
    (s.readWord 0x10#7).getLsbD 2 = s.err ∧
    (s.readWord 0x10#7).getLsbD 3 = s.ovr ∧
    (s.readWord 0x10#7).toNat / 2 ^ 4 % 2 ^ 4 = 0 ∧
    (s.readWord 0x10#7).toNat / 2 ^ 8 % 2 ^ 4 = s.errcode.toNat ∧
    (s.readWord 0x10#7).toNat / 2 ^ 12 % 2 ^ 4 = 0 ∧
    (s.readWord 0x10#7).toNat / 2 ^ 16 % 2 ^ 4 = s.lastop.toNat ∧
    (s.readWord 0x10#7).toNat / 2 ^ 20 = 0

/-- A STATUS write clears what it writes 1 to (10_state.md R32): DONE, ERR with ERRCODE, OVR, and nothing else. -/
def Obligations.StatusWrite : Prop :=
  ∀ (s : State) (v : Word),
    s.memWrite 0x10#7 8 v =
      { s with
        done := if v[1] then false else s.done
        err := if v[2] then false else s.err
        errcode := if v[2] then 0#4 else s.errcode
        ovr := if v[3] then false else s.ovr
        response := some .okay }

/-- A write of OPA, OPB or OPM keeps the word's low W bits and changes nothing else, and the register reads them back
zero-extended (10_state.md R34, R35). -/
def Obligations.OperandRegisterWrite : Prop :=
  ∀ (s : State) (v : Word), s.cfg.wellFormed = true →
    s.memWrite 0x20#7 8 v =
      { s with opa := BitVec.ofNat 64 (v.toNat % 2 ^ s.cfg.width), response := some .okay } ∧
    s.memWrite 0x28#7 8 v =
      { s with opb := BitVec.ofNat 64 (v.toNat % 2 ^ s.cfg.width), response := some .okay } ∧
    s.memWrite 0x30#7 8 v =
      { s with opm := BitVec.ofNat 64 (v.toNat % 2 ^ s.cfg.width), response := some .okay } ∧
    ((s.memWrite 0x20#7 8 v).readWord 0x20#7).toNat = v.toNat % 2 ^ s.cfg.width ∧
    ((s.memWrite 0x28#7 8 v).readWord 0x28#7).toNat = v.toNat % 2 ^ s.cfg.width ∧
    ((s.memWrite 0x30#7 8 v).readWord 0x30#7).toNat = v.toNat % 2 ^ s.cfg.width

/-- A legal read at any offset answers OKAY with all 64 bits of the word there, as IdRegister, CtrlRegister, StatusReads
and ReservedWords describe it, and changes nothing but the port's response (20_memory.md R65, R66); CMD reads 0, and the
operand and result registers return what they hold (10_state.md R33 to R37). -/
def Obligations.ReadsReturnTheRegisters : Prop :=
  ∀ s : State,
    s.memRead 0x18#7 8 = { s with response := some (.okayData 0#64) } ∧
    s.memRead 0x20#7 8 = { s with response := some (.okayData s.opa) } ∧
    s.memRead 0x28#7 8 = { s with response := some (.okayData s.opb) } ∧
    s.memRead 0x30#7 8 = { s with response := some (.okayData s.opm) } ∧
    s.memRead 0x38#7 8 = { s with response := some (.okayData s.result) } ∧
    s.memRead 0x40#7 8 = { s with response := some (.okayData s.steps) } ∧
    (∀ off : Offset, off.toNat % 8 = 0 →
      s.memRead off 8 = { s with response := some (.okayData (s.readWord off)) })

/-- Writes of RESULT and STEPS are ignored with OKAY (10_state.md R36, R37; 20_memory.md R65). -/
def Obligations.ResultAndStepsIgnoreWrites : Prop :=
  ∀ (s : State) (v : Word),
    s.memWrite 0x38#7 8 v = { s with response := some .okay } ∧
    s.memWrite 0x40#7 8 v = { s with response := some .okay }

/-! ### 20_memory.md: the bus -/

/-- The reserved words 0x48 to 0x78 read 0 and ignore writes, with OKAY (20_memory.md R64). -/
def Obligations.ReservedWords : Prop :=
  ∀ (s : State) (off : Offset) (v : Word), off.toNat % 8 = 0 → 0x48 ≤ off.toNat →
    s.memRead off 8 = { s with response := some (.okayData 0#64) } ∧
    s.memWrite off 8 v = { s with response := some .okay }

/-- An access of another size than 8 or at an offset that is no multiple of 8 gets an ERROR response, is recorded as a
host fault and changes nothing else; every other access gets OKAY (20_memory.md R62, 60_exceptions.md R167). -/
def Obligations.IllegalAccessChangesNothing : Prop :=
  ∀ (s : State) (off : Offset) (size : Nat) (v : Word),
    (size ≠ 8 ∨ off.toNat % 8 ≠ 0 →
      s.memRead off size = { s with response := some .error, hostFault := true } ∧
      s.memWrite off size v = { s with response := some .error, hostFault := true }) ∧
    (size = 8 → off.toNat % 8 = 0 →
      (∃ d, (s.memRead off size).response = some (.okayData d)) ∧
      (s.memWrite off size v).response = some .okay ∧
      (s.memRead off size).hostFault = s.hostFault ∧ (s.memWrite off size v).hostFault = s.hostFault)

/-- The block decodes exactly the addresses BASE to BASE + 127 (20_memory.md R60, R61). That a transaction outside
leaves the block alone, without a response of its own, is the model's choice (log entry 10). -/
def Obligations.WindowDecodesItsAddresses : Prop :=
  ∀ (s : State) (size : Nat) (v : Word),
    (∀ off : Offset,
      s.transact (.read (s.cfg.base + off.toNat) size) = s.memRead off size ∧
      s.transact (.write (s.cfg.base + off.toNat) size v) = s.memWrite off size v) ∧
    (∀ addr : Nat, addr < s.cfg.base ∨ s.cfg.base + 128 ≤ addr →
      s.transact (.read addr size) = s ∧ s.transact (.write addr size v) = s)

/-- A bus error is recorded in the step that answers ERROR and is never cleared, by no reset either
(60_exceptions.md R167; the record's form is the model's, log entry 8). -/
def Obligations.HostFaultIsNeverCleared : Prop :=
  ∀ s t : State, step s = .next t →
    (s.hostFault = true → t.hostFault = true) ∧
    (t.response = some .error → t.hostFault = true) ∧
    (s.hostFault = false → t.hostFault = true → t.response = some .error)

/-- A host that makes only legal accesses, and accesses outside the window, never has a bus error: with no other
transaction among the events to come, a run without a bus error stays one (20_memory.md R62, 60_exceptions.md R167).
That an access outside the window gives no bus error of the block's is the model's choice, since 20_memory.md R61 leaves
it to the platform (log entry 10). -/
def Obligations.LegalHostsCauseNoBusError : Prop :=
  ∀ (n : Nat) (s t : State), s.BusErrorFree →
    (∀ tr, .bus tr ∈ s.agenda → tr.isLegal s.cfg = true) →
    Host.Core.run core n s = .next t → t.BusErrorFree

/-! ### 60_exceptions.md: the interrupt -/

/-- irq is IRQ_EN and DONE, and a successful completion, an error completion and an illegal command all raise it when
IRQ_EN = 1 (60_exceptions.md R171). -/
def Obligations.CompletionRaisesIrq : Prop :=
  (∀ s : State, s.irq = (s.irqEn && s.done)) ∧
  (∀ (i : Instr) (s : State) (h : Latch), s.InFlight h → ∃ t : State, exec i s = .next t ∧ t.irq = s.irqEn) ∧
  (∀ (s : State) (v : Word), s.busy = false → decode v = none → (s.memWrite 0x18#7 8 v).irq = s.irqEn)

/-- irq falls when DONE is written 1, when a legal command is accepted, and when IRQ_EN is written 0, which leaves DONE
pending; IRQ_EN written 1 while DONE = 1 raises it at once (60_exceptions.md R172). -/
def Obligations.HostClearsIrq : Prop :=
  ∀ (s : State) (v : Word),
    (v[1] = true → (s.memWrite 0x10#7 8 v).irq = false) ∧
    (s.busy = false → (decode v).isSome = true → (s.memWrite 0x18#7 8 v).irq = false) ∧
    (v[1] = false → v[0] = false →
      (s.memWrite 0x08#7 8 v).irq = false ∧ (s.memWrite 0x08#7 8 v).done = s.done) ∧
    (v[1] = false → v[0] = true → (s.memWrite 0x08#7 8 v).irq = s.done)

/-! ### 70_reset_and_hazards.md -/

/-- Reset values, as the host reads them (10_state.md R43), of the block after a reset from any state and of a machine
that has just come up: every register but ID reads 0, irq is 0, and nothing is in flight. -/
def Obligations.ResetRegisterValues : Prop :=
  ∀ (s : State) (off : Offset),
    s.blockReset.readWord off = (if off = 0x00#7 then idWord s.cfg else 0#64) ∧
    s.blockReset.irq = false ∧ s.blockReset.inflight = none ∧
    (State.resetWith s.cfg).readWord off = (if off = 0x00#7 then idWord s.cfg else 0#64) ∧
    (State.resetWith s.cfg).irq = false ∧ (State.resetWith s.cfg).inflight = none

/-- Both reset sources have the same effect, from every state (70_reset_and_hazards.md R190, R191): the step of a
hardware reset and the step of a CTRL write with bit 1 = 1 leave the same block, that of 10_state.md R43, and differ
in the port's response alone. That the host fault record outlives a reset is the model's choice (log entry 8). -/
def Obligations.BothResetsAgree : Prop :=
  ∀ (s : State) (rest : List Event) (v : Word), v[1] = true →
    (s.agenda = .hardwareReset :: rest →
      step s = .next { State.resetWith s.cfg with hostFault := s.hostFault, agenda := rest }) ∧
    (s.agenda = .bus (.write (s.cfg.base + 0x08) 8 v) :: rest →
      step s = .next
        { State.resetWith s.cfg with hostFault := s.hostFault, agenda := rest, response := some .okay })

/-- A reset discards the command in flight (40_command_lifecycle.md R112, 70_reset_and_hazards.md R199). As long as the
host does anything but write CMD, and however often the engine is given its turn, no commit and no irq follow: BUSY,
DONE, RESULT and STEPS stay 0. As long as the host does nothing at all, every word reads as after reset. The run takes
the first n events. The model's part: it goes on after an ERROR response (log entry 8), an access outside the window
leaves the block alone (log entry 10), the engine's turn on an idle block does nothing (log entry 4), and it moves when
no event is left (log entry 3). -/
def Obligations.ResetAbortsTheCommand : Prop :=
  ∀ (s : State) (n : Nat), (∀ e ∈ s.agenda.take n, e.isIssue s.cfg = false) →
    ∃ t : State, Host.Core.run core n s.blockReset = .next t ∧ t.irq = false ∧ t.busy = false ∧ t.done = false ∧
      t.readWord 0x38#7 = 0#64 ∧ t.readWord 0x40#7 = 0#64 ∧
      ((∀ e ∈ s.agenda.take n, e = .completion) →
        ∀ off : Offset, t.readWord off = (State.resetWith s.cfg).readWord off)

/-! ### Whole-machine rules -/

/-- The invariant holds after reset, in every legal configuration (10_state.md R43 to R45). -/
def Obligations.ResetHasTheInvariant : Prop :=
  ∀ c : Config, c.wellFormed = true → (State.resetWith c).Inv

/-- Every step keeps the invariant of 10_state.md R44 and R45, from every state that has it. -/
def Obligations.StepKeepsTheInvariant : Prop :=
  ∀ s t : State, s.Inv → step s = .next t → t.Inv

/-- The machine never stops: from every state that has the invariant (10_state.md R44, R45; it rules out the model's
one fault, log entry 7) a step of any kind (00_scope.md R19) answers a next state. That it does so after an ERROR
response (log entry 8), for an access outside the window (log entry 10), for a completion on an idle block (log entry 4)
and with no event left (log entry 3) is the model's choice. -/
def Obligations.StepAlwaysAnswers : Prop :=
  ∀ s : State, s.Inv → ∃ t : State, step s = .next t

/-- W and BASE never change, and a step takes at most one event from the agenda (00_scope.md R8, R19). -/
def Obligations.StepKeepsTheParameters : Prop :=
  ∀ s t : State, step s = .next t → t.cfg = s.cfg ∧ t.agenda = s.agenda.tail

/-- What changes BUSY (10_state.md R27): it falls only with the engine's completion or a reset, and rises only with
the accept of a legal command. The engine completes when its event is the next, or, by the model's choice (log entry 3),
when no event is left. -/
def Obligations.BusyWriters : Prop :=
  ∀ s t : State, step s = .next t →
    (s.busy = true → t.busy = false →
      s.agenda = [] ∨ ∃ e, s.agenda.head? = some e ∧ (e = .completion ∨ e.isReset s.cfg = true)) ∧
    (s.busy = false → t.busy = true →
      ∃ v, s.agenda.head? = some (.bus (.write (s.cfg.base + 0x18) 8 v)) ∧ (decode v).isSome = true)

/-- What changes DONE (10_state.md R28): it rises only with a completion (the engine's, of a busy block, or an illegal
command's) and falls only with an accept, a write of 1 to STATUS bit 1, or a reset. That the engine completes when no
event is left is the model's choice (log entry 3). -/
def Obligations.DoneWriters : Prop :=
  ∀ s t : State, step s = .next t →
    (s.done = false → t.done = true →
      (s.busy = true ∧ (s.agenda = [] ∨ s.agenda.head? = some .completion)) ∨
      (s.busy = false ∧
        ∃ v, s.agenda.head? = some (.bus (.write (s.cfg.base + 0x18) 8 v)) ∧ decode v = none)) ∧
    (s.done = true → t.done = false →
      (s.busy = false ∧
        ∃ v, s.agenda.head? = some (.bus (.write (s.cfg.base + 0x18) 8 v)) ∧ (decode v).isSome = true) ∨
      (∃ v : Word, s.agenda.head? = some (.bus (.write (s.cfg.base + 0x10) 8 v)) ∧ v[1] = true) ∨
      ∃ e, s.agenda.head? = some e ∧ e.isReset s.cfg = true)

/-- What changes ERR and ERRCODE (10_state.md R29), in every state that has the invariant: they are set together by a
completion and cleared together by an accept, a write of 1 to STATUS bit 2, or a reset. That the engine completes when
no event is left is the model's choice (log entry 3). -/
def Obligations.ErrWriters : Prop :=
  ∀ s t : State, s.Inv → step s = .next t → (t.err ≠ s.err ∨ t.errcode ≠ s.errcode) →
    (s.busy = true ∧ t.err = true ∧ (s.agenda = [] ∨ s.agenda.head? = some .completion)) ∨
    (s.busy = false ∧ ∃ v, s.agenda.head? = some (.bus (.write (s.cfg.base + 0x18) 8 v)) ∧
      t.errcode = (if decode v = none then 1#4 else 0#4)) ∨
    (t.err = false ∧ t.errcode = 0#4 ∧
      ∃ v : Word, s.agenda.head? = some (.bus (.write (s.cfg.base + 0x10) 8 v)) ∧ v[2] = true) ∨
    (t.err = false ∧ t.errcode = 0#4 ∧ ∃ e, s.agenda.head? = some e ∧ e.isReset s.cfg = true)

/-- What changes OVR (10_state.md R30): it rises only with a CMD write while BUSY = 1, and falls only with a write of 1
to STATUS bit 3 or a reset. -/
def Obligations.OvrWriters : Prop :=
  ∀ s t : State, step s = .next t →
    (s.ovr = false → t.ovr = true →
      s.busy = true ∧ ∃ v, s.agenda.head? = some (.bus (.write (s.cfg.base + 0x18) 8 v))) ∧
    (s.ovr = true → t.ovr = false →
      (∃ v : Word, s.agenda.head? = some (.bus (.write (s.cfg.base + 0x10) 8 v)) ∧ v[3] = true) ∨
      ∃ e, s.agenda.head? = some e ∧ e.isReset s.cfg = true)

/-- What changes LASTOP (10_state.md R31): only an accept, which sets it to CMD[3:0] of the word, legal or not, and a
reset. -/
def Obligations.LastopWriters : Prop :=
  ∀ s t : State, step s = .next t → t.lastop ≠ s.lastop →
    (s.busy = false ∧ ∃ v, s.agenda.head? = some (.bus (.write (s.cfg.base + 0x18) 8 v)) ∧
      t.lastop = BitVec.ofNat 4 v.toNat) ∨
    (t.lastop = 0#4 ∧ ∃ e, s.agenda.head? = some e ∧ e.isReset s.cfg = true)

/-- Only a completion or a reset writes RESULT and STEPS (10_state.md R36, R37; 20_memory.md R68): RESULT changes only
with the engine's completion without an error or a reset, STEPS also with an illegal command, which writes 0. That the
engine completes when no event is left is the model's choice (log entry 3). -/
def Obligations.ResultAndStepsWriters : Prop :=
  ∀ s t : State, s.Inv → step s = .next t →
    (t.result ≠ s.result →
      (s.busy = true ∧ t.err = false ∧ (s.agenda = [] ∨ s.agenda.head? = some .completion)) ∨
      ∃ e, s.agenda.head? = some e ∧ e.isReset s.cfg = true) ∧
    (t.steps ≠ s.steps →
      (s.busy = true ∧ (s.agenda = [] ∨ s.agenda.head? = some .completion)) ∨
      (s.busy = false ∧ t.steps = 0#64 ∧
        ∃ v, s.agenda.head? = some (.bus (.write (s.cfg.base + 0x18) 8 v)) ∧ decode v = none) ∨
      ∃ e, s.agenda.head? = some e ∧ e.isReset s.cfg = true)

/-- Only the host writes OPA, OPB and OPM, each through its own offset (10_state.md R34), and only a CTRL write or a
reset changes IRQ_EN (R24, R25). -/
def Obligations.HostRegistersWriters : Prop :=
  ∀ s t : State, step s = .next t →
    (t.opa ≠ s.opa → (∃ v, s.agenda.head? = some (.bus (.write (s.cfg.base + 0x20) 8 v))) ∨
      ∃ e, s.agenda.head? = some e ∧ e.isReset s.cfg = true) ∧
    (t.opb ≠ s.opb → (∃ v, s.agenda.head? = some (.bus (.write (s.cfg.base + 0x28) 8 v))) ∨
      ∃ e, s.agenda.head? = some e ∧ e.isReset s.cfg = true) ∧
    (t.opm ≠ s.opm → (∃ v, s.agenda.head? = some (.bus (.write (s.cfg.base + 0x30) 8 v))) ∨
      ∃ e, s.agenda.head? = some e ∧ e.isReset s.cfg = true) ∧
    (t.irqEn ≠ s.irqEn → (∃ v, s.agenda.head? = some (.bus (.write (s.cfg.base + 0x08) 8 v))) ∨
      s.agenda.head? = some .hardwareReset)

/-- Read after done (20_memory.md R68): once DONE = 1, RESULT and STEPS still read what they read then, any number n of
steps later, as long as the n events those steps take hold no CMD write and no reset. The model's part: it goes on after
an ERROR response (log entry 8), an access outside the window leaves the block alone (log entry 10), the engine's turn
on an idle block does nothing (log entry 4), and it moves when no event is left (log entry 3). -/
def Obligations.ReadAfterDone : Prop :=
  ∀ (n : Nat) (s t : State), s.Inv → s.done = true →
    (∀ e ∈ s.agenda.take n, e.isIssue s.cfg = false ∧ e.isReset s.cfg = false) →
    Host.Core.run core n s = .next t →
    t.readWord 0x38#7 = s.readWord 0x38#7 ∧ t.readWord 0x40#7 = s.readWord 0x40#7

/-- A command in flight completes eventually (40_command_lifecycle.md R109, fairness): after the events to come and one
more step the block is idle, and where no reset (R112) and no CMD write is among those events, the command in flight has
committed: RESULT and STEPS are those of exec at the start, and so are DONE, ERR and ERRCODE where no STATUS write is
among them either. The model's part: the engine moves when no event is left (log entry 3), its turn on an idle block
does nothing (log entry 4), and the run goes on after an ERROR response (log entry 8) and after an access outside the
window, which leaves the block alone (log entry 10). -/
def Obligations.CommandEventuallyCompletes : Prop :=
  ∀ s : State, s.Inv → ∃ t : State, Host.Core.run core (s.agenda.length + 1) s = .next t ∧ t.busy = false ∧
    ∀ h : Latch, s.InFlight h → (∀ e ∈ s.agenda, e.isIssue s.cfg = false ∧ e.isReset s.cfg = false) →
      ∃ u : State, exec h.op s = .next u ∧ t.result = u.result ∧ t.steps = u.steps ∧
        ((∀ v : Word, .bus (.write (s.cfg.base + 0x10) 8 v) ∉ s.agenda) →
          t.done = true ∧ t.err = u.err ∧ t.errcode = u.errcode)

/-- Operand writes after the issue do not reach the command in flight (20_memory.md R71, 70_reset_and_hazards.md R197):
completing after the write is the same as writing after the completion. -/
def Obligations.LateOperandWrites : Prop :=
  ∀ (i : Instr) (s : State) (h : Latch) (off : Offset) (v : Word), s.InFlight h →
    (off = 0x20#7 ∨ off = 0x28#7 ∨ off = 0x30#7) →
    ∃ t : State, exec i s = .next t ∧ exec i (s.memWrite off 8 v) = .next (t.memWrite off 8 v)

/-- The completion race (70_reset_and_hazards.md R198; vector L3-5), either order of the completion and of a host access.
A STATUS read sees BUSY = 1 before it and BUSY = 0 after it. A CMD write before it is dropped, whatever the word, and
leaves the first command in flight; after it, a legal word starts the second command and an illegal one completes with
code 1. A W1C of DONE before it has no effect on the block; after it, it clears DONE and nothing else. -/
def Obligations.CompletionRace : Prop :=
  ∀ (s : State) (h : Latch), s.Inv → s.InFlight h →
    (s.readWord 0x10#7)[0] = true ∧
    (∀ v : Word, (s.memWrite 0x18#7 8 v).InFlight h ∧ (s.memWrite 0x18#7 8 v).ovr = true) ∧
    s.memWrite 0x10#7 8 0x2#64 = { s with response := some .okay } ∧
    ∃ t : State, exec h.op s = .next t ∧ t.done = true ∧
      (t.readWord 0x10#7)[0] = false ∧
      (∀ (v : Word) (op : Instr), decode v = some op →
        (t.memWrite 0x18#7 8 v).InFlight { op := op, a := s.opa, b := s.opb, m := s.opm } ∧
        (t.memWrite 0x18#7 8 v).ovr = s.ovr) ∧
      (∀ v : Word, decode v = none →
        (t.memWrite 0x18#7 8 v).busy = false ∧ (t.memWrite 0x18#7 8 v).errcode = 1#4 ∧
        (t.memWrite 0x18#7 8 v).result = t.result ∧ (t.memWrite 0x18#7 8 v).ovr = s.ovr) ∧
      t.memWrite 0x10#7 8 0x2#64 = { t with done := false, response := some .okay }
end

