-- ==== Sys2Proof/Laws/State.lean ====
section
/-! SUPPORT. One simp lemma per field per named update of State. -/

namespace Sys2Proof.Machine

/-! ### State.blockReset (70_reset_and_hazards.md R191) -/

@[simp] theorem State.blockReset_cfg (s : State) : s.blockReset.cfg = s.cfg := rfl
@[simp] theorem State.blockReset_irqEn (s : State) : s.blockReset.irqEn = false := rfl
@[simp] theorem State.blockReset_busy (s : State) : s.blockReset.busy = false := rfl
@[simp] theorem State.blockReset_done (s : State) : s.blockReset.done = false := rfl
@[simp] theorem State.blockReset_err (s : State) : s.blockReset.err = false := rfl
@[simp] theorem State.blockReset_ovr (s : State) : s.blockReset.ovr = false := rfl
@[simp] theorem State.blockReset_errcode (s : State) : s.blockReset.errcode = 0#4 := rfl
@[simp] theorem State.blockReset_lastop (s : State) : s.blockReset.lastop = 0#4 := rfl
@[simp] theorem State.blockReset_opa (s : State) : s.blockReset.opa = 0#64 := rfl
@[simp] theorem State.blockReset_opb (s : State) : s.blockReset.opb = 0#64 := rfl
@[simp] theorem State.blockReset_opm (s : State) : s.blockReset.opm = 0#64 := rfl
@[simp] theorem State.blockReset_result (s : State) : s.blockReset.result = 0#64 := rfl
@[simp] theorem State.blockReset_steps (s : State) : s.blockReset.steps = 0#64 := rfl
@[simp] theorem State.blockReset_inflight (s : State) : s.blockReset.inflight = none := rfl
@[simp] theorem State.blockReset_response (s : State) : s.blockReset.response = s.response := rfl
@[simp] theorem State.blockReset_hostFault (s : State) : s.blockReset.hostFault = s.hostFault := rfl
@[simp] theorem State.blockReset_agenda (s : State) : s.blockReset.agenda = s.agenda := rfl

/-! ### State.overrun (40_command_lifecycle.md R101) -/

@[simp] theorem State.overrun_cfg (s : State) : s.overrun.cfg = s.cfg := rfl
@[simp] theorem State.overrun_irqEn (s : State) : s.overrun.irqEn = s.irqEn := rfl
@[simp] theorem State.overrun_busy (s : State) : s.overrun.busy = s.busy := rfl
@[simp] theorem State.overrun_done (s : State) : s.overrun.done = s.done := rfl
@[simp] theorem State.overrun_err (s : State) : s.overrun.err = s.err := rfl
@[simp] theorem State.overrun_ovr (s : State) : s.overrun.ovr = true := rfl
@[simp] theorem State.overrun_errcode (s : State) : s.overrun.errcode = s.errcode := rfl
@[simp] theorem State.overrun_lastop (s : State) : s.overrun.lastop = s.lastop := rfl
@[simp] theorem State.overrun_opa (s : State) : s.overrun.opa = s.opa := rfl
@[simp] theorem State.overrun_opb (s : State) : s.overrun.opb = s.opb := rfl
@[simp] theorem State.overrun_opm (s : State) : s.overrun.opm = s.opm := rfl
@[simp] theorem State.overrun_result (s : State) : s.overrun.result = s.result := rfl
@[simp] theorem State.overrun_steps (s : State) : s.overrun.steps = s.steps := rfl
@[simp] theorem State.overrun_inflight (s : State) : s.overrun.inflight = s.inflight := rfl
@[simp] theorem State.overrun_response (s : State) : s.overrun.response = s.response := rfl
@[simp] theorem State.overrun_hostFault (s : State) : s.overrun.hostFault = s.hostFault := rfl
@[simp] theorem State.overrun_agenda (s : State) : s.overrun.agenda = s.agenda := rfl

/-! ### State.accept (40_command_lifecycle.md R102) -/

@[simp] theorem State.accept_cfg (s : State) (op : Nibble) : (s.accept op).cfg = s.cfg := rfl
@[simp] theorem State.accept_irqEn (s : State) (op : Nibble) : (s.accept op).irqEn = s.irqEn := rfl
@[simp] theorem State.accept_busy (s : State) (op : Nibble) : (s.accept op).busy = s.busy := rfl
@[simp] theorem State.accept_done (s : State) (op : Nibble) : (s.accept op).done = false := rfl
@[simp] theorem State.accept_err (s : State) (op : Nibble) : (s.accept op).err = false := rfl
@[simp] theorem State.accept_ovr (s : State) (op : Nibble) : (s.accept op).ovr = s.ovr := rfl
@[simp] theorem State.accept_errcode (s : State) (op : Nibble) : (s.accept op).errcode = 0#4 := rfl
@[simp] theorem State.accept_lastop (s : State) (op : Nibble) : (s.accept op).lastop = op := rfl
@[simp] theorem State.accept_opa (s : State) (op : Nibble) : (s.accept op).opa = s.opa := rfl
@[simp] theorem State.accept_opb (s : State) (op : Nibble) : (s.accept op).opb = s.opb := rfl
@[simp] theorem State.accept_opm (s : State) (op : Nibble) : (s.accept op).opm = s.opm := rfl
@[simp] theorem State.accept_result (s : State) (op : Nibble) : (s.accept op).result = s.result := rfl
@[simp] theorem State.accept_steps (s : State) (op : Nibble) : (s.accept op).steps = s.steps := rfl
@[simp] theorem State.accept_inflight (s : State) (op : Nibble) : (s.accept op).inflight = s.inflight := rfl
@[simp] theorem State.accept_response (s : State) (op : Nibble) : (s.accept op).response = s.response := rfl
@[simp] theorem State.accept_hostFault (s : State) (op : Nibble) : (s.accept op).hostFault = s.hostFault := rfl
@[simp] theorem State.accept_agenda (s : State) (op : Nibble) : (s.accept op).agenda = s.agenda := rfl

/-! ### State.startCommand (40_command_lifecycle.md R104) -/

@[simp] theorem State.startCommand_cfg (s : State) (op : Instr) : (s.startCommand op).cfg = s.cfg := rfl
@[simp] theorem State.startCommand_irqEn (s : State) (op : Instr) : (s.startCommand op).irqEn = s.irqEn := rfl
@[simp] theorem State.startCommand_busy (s : State) (op : Instr) : (s.startCommand op).busy = true := rfl
@[simp] theorem State.startCommand_done (s : State) (op : Instr) : (s.startCommand op).done = s.done := rfl
@[simp] theorem State.startCommand_err (s : State) (op : Instr) : (s.startCommand op).err = s.err := rfl
@[simp] theorem State.startCommand_ovr (s : State) (op : Instr) : (s.startCommand op).ovr = s.ovr := rfl
@[simp] theorem State.startCommand_errcode (s : State) (op : Instr) : (s.startCommand op).errcode = s.errcode := rfl
@[simp] theorem State.startCommand_lastop (s : State) (op : Instr) : (s.startCommand op).lastop = s.lastop := rfl
@[simp] theorem State.startCommand_opa (s : State) (op : Instr) : (s.startCommand op).opa = s.opa := rfl
@[simp] theorem State.startCommand_opb (s : State) (op : Instr) : (s.startCommand op).opb = s.opb := rfl
@[simp] theorem State.startCommand_opm (s : State) (op : Instr) : (s.startCommand op).opm = s.opm := rfl
@[simp] theorem State.startCommand_result (s : State) (op : Instr) : (s.startCommand op).result = s.result := rfl
@[simp] theorem State.startCommand_steps (s : State) (op : Instr) : (s.startCommand op).steps = s.steps := rfl
@[simp] theorem State.startCommand_inflight (s : State) (op : Instr) : (s.startCommand op).inflight = some (s.latchOperands op) := rfl
@[simp] theorem State.startCommand_response (s : State) (op : Instr) : (s.startCommand op).response = s.response := rfl
@[simp] theorem State.startCommand_hostFault (s : State) (op : Instr) : (s.startCommand op).hostFault = s.hostFault := rfl
@[simp] theorem State.startCommand_agenda (s : State) (op : Instr) : (s.startCommand op).agenda = s.agenda := rfl

/-! ### State.succeed (40_command_lifecycle.md R106) -/

@[simp] theorem State.succeed_cfg (s : State) (r n : Nat) : (s.succeed r n).cfg = s.cfg := rfl
@[simp] theorem State.succeed_irqEn (s : State) (r n : Nat) : (s.succeed r n).irqEn = s.irqEn := rfl
@[simp] theorem State.succeed_busy (s : State) (r n : Nat) : (s.succeed r n).busy = false := rfl
@[simp] theorem State.succeed_done (s : State) (r n : Nat) : (s.succeed r n).done = true := rfl
@[simp] theorem State.succeed_err (s : State) (r n : Nat) : (s.succeed r n).err = s.err := rfl
@[simp] theorem State.succeed_ovr (s : State) (r n : Nat) : (s.succeed r n).ovr = s.ovr := rfl
@[simp] theorem State.succeed_errcode (s : State) (r n : Nat) : (s.succeed r n).errcode = s.errcode := rfl
@[simp] theorem State.succeed_lastop (s : State) (r n : Nat) : (s.succeed r n).lastop = s.lastop := rfl
@[simp] theorem State.succeed_opa (s : State) (r n : Nat) : (s.succeed r n).opa = s.opa := rfl
@[simp] theorem State.succeed_opb (s : State) (r n : Nat) : (s.succeed r n).opb = s.opb := rfl
@[simp] theorem State.succeed_opm (s : State) (r n : Nat) : (s.succeed r n).opm = s.opm := rfl
@[simp] theorem State.succeed_result (s : State) (r n : Nat) : (s.succeed r n).result = fitWord s.cfg r := rfl
@[simp] theorem State.succeed_steps (s : State) (r n : Nat) : (s.succeed r n).steps = fitWord s.cfg n := rfl
@[simp] theorem State.succeed_inflight (s : State) (r n : Nat) : (s.succeed r n).inflight = none := rfl
@[simp] theorem State.succeed_response (s : State) (r n : Nat) : (s.succeed r n).response = s.response := rfl
@[simp] theorem State.succeed_hostFault (s : State) (r n : Nat) : (s.succeed r n).hostFault = s.hostFault := rfl
@[simp] theorem State.succeed_agenda (s : State) (r n : Nat) : (s.succeed r n).agenda = s.agenda := rfl

/-! ### State.fail (40_command_lifecycle.md R107) -/

@[simp] theorem State.fail_cfg (s : State) (e : CommandError) (n : Nat) : (s.fail e n).cfg = s.cfg := rfl
@[simp] theorem State.fail_irqEn (s : State) (e : CommandError) (n : Nat) : (s.fail e n).irqEn = s.irqEn := rfl
@[simp] theorem State.fail_busy (s : State) (e : CommandError) (n : Nat) : (s.fail e n).busy = false := rfl
@[simp] theorem State.fail_done (s : State) (e : CommandError) (n : Nat) : (s.fail e n).done = true := rfl
@[simp] theorem State.fail_err (s : State) (e : CommandError) (n : Nat) : (s.fail e n).err = true := rfl
@[simp] theorem State.fail_ovr (s : State) (e : CommandError) (n : Nat) : (s.fail e n).ovr = s.ovr := rfl
@[simp] theorem State.fail_errcode (s : State) (e : CommandError) (n : Nat) : (s.fail e n).errcode = e.code := rfl
@[simp] theorem State.fail_lastop (s : State) (e : CommandError) (n : Nat) : (s.fail e n).lastop = s.lastop := rfl
@[simp] theorem State.fail_opa (s : State) (e : CommandError) (n : Nat) : (s.fail e n).opa = s.opa := rfl
@[simp] theorem State.fail_opb (s : State) (e : CommandError) (n : Nat) : (s.fail e n).opb = s.opb := rfl
@[simp] theorem State.fail_opm (s : State) (e : CommandError) (n : Nat) : (s.fail e n).opm = s.opm := rfl
@[simp] theorem State.fail_result (s : State) (e : CommandError) (n : Nat) : (s.fail e n).result = s.result := rfl
@[simp] theorem State.fail_steps (s : State) (e : CommandError) (n : Nat) : (s.fail e n).steps = fitWord s.cfg n := rfl
@[simp] theorem State.fail_inflight (s : State) (e : CommandError) (n : Nat) : (s.fail e n).inflight = none := rfl
@[simp] theorem State.fail_response (s : State) (e : CommandError) (n : Nat) : (s.fail e n).response = s.response := rfl
@[simp] theorem State.fail_hostFault (s : State) (e : CommandError) (n : Nat) : (s.fail e n).hostFault = s.hostFault := rfl
@[simp] theorem State.fail_agenda (s : State) (e : CommandError) (n : Nat) : (s.fail e n).agenda = s.agenda := rfl

/-! ### State.clearStatus (10_state.md R32) -/

@[simp] theorem State.clearStatus_cfg (s : State) (v : Word) : (s.clearStatus v).cfg = s.cfg := rfl
@[simp] theorem State.clearStatus_irqEn (s : State) (v : Word) : (s.clearStatus v).irqEn = s.irqEn := rfl
@[simp] theorem State.clearStatus_busy (s : State) (v : Word) : (s.clearStatus v).busy = s.busy := rfl
@[simp] theorem State.clearStatus_done (s : State) (v : Word) : (s.clearStatus v).done = (s.done && !v[1]) := rfl
@[simp] theorem State.clearStatus_err (s : State) (v : Word) : (s.clearStatus v).err = (s.err && !v[2]) := rfl
@[simp] theorem State.clearStatus_ovr (s : State) (v : Word) : (s.clearStatus v).ovr = (s.ovr && !v[3]) := rfl
@[simp] theorem State.clearStatus_errcode (s : State) (v : Word) : (s.clearStatus v).errcode = (if v[2] then 0#4 else s.errcode) := rfl
@[simp] theorem State.clearStatus_lastop (s : State) (v : Word) : (s.clearStatus v).lastop = s.lastop := rfl
@[simp] theorem State.clearStatus_opa (s : State) (v : Word) : (s.clearStatus v).opa = s.opa := rfl
@[simp] theorem State.clearStatus_opb (s : State) (v : Word) : (s.clearStatus v).opb = s.opb := rfl
@[simp] theorem State.clearStatus_opm (s : State) (v : Word) : (s.clearStatus v).opm = s.opm := rfl
@[simp] theorem State.clearStatus_result (s : State) (v : Word) : (s.clearStatus v).result = s.result := rfl
@[simp] theorem State.clearStatus_steps (s : State) (v : Word) : (s.clearStatus v).steps = s.steps := rfl
@[simp] theorem State.clearStatus_inflight (s : State) (v : Word) : (s.clearStatus v).inflight = s.inflight := rfl
@[simp] theorem State.clearStatus_response (s : State) (v : Word) : (s.clearStatus v).response = s.response := rfl
@[simp] theorem State.clearStatus_hostFault (s : State) (v : Word) : (s.clearStatus v).hostFault = s.hostFault := rfl
@[simp] theorem State.clearStatus_agenda (s : State) (v : Word) : (s.clearStatus v).agenda = s.agenda := rfl

/-! ### State.busError (20_memory.md R62) -/

@[simp] theorem State.busError_cfg (s : State) : s.busError.cfg = s.cfg := rfl
@[simp] theorem State.busError_irqEn (s : State) : s.busError.irqEn = s.irqEn := rfl
@[simp] theorem State.busError_busy (s : State) : s.busError.busy = s.busy := rfl
@[simp] theorem State.busError_done (s : State) : s.busError.done = s.done := rfl
@[simp] theorem State.busError_err (s : State) : s.busError.err = s.err := rfl
@[simp] theorem State.busError_ovr (s : State) : s.busError.ovr = s.ovr := rfl
@[simp] theorem State.busError_errcode (s : State) : s.busError.errcode = s.errcode := rfl
@[simp] theorem State.busError_lastop (s : State) : s.busError.lastop = s.lastop := rfl
@[simp] theorem State.busError_opa (s : State) : s.busError.opa = s.opa := rfl
@[simp] theorem State.busError_opb (s : State) : s.busError.opb = s.opb := rfl
@[simp] theorem State.busError_opm (s : State) : s.busError.opm = s.opm := rfl
@[simp] theorem State.busError_result (s : State) : s.busError.result = s.result := rfl
@[simp] theorem State.busError_steps (s : State) : s.busError.steps = s.steps := rfl
@[simp] theorem State.busError_inflight (s : State) : s.busError.inflight = s.inflight := rfl
@[simp] theorem State.busError_response (s : State) : s.busError.response = some .error := rfl
@[simp] theorem State.busError_hostFault (s : State) : s.busError.hostFault = true := rfl
@[simp] theorem State.busError_agenda (s : State) : s.busError.agenda = s.agenda := rfl

/-! ### State.afterOk (40_command_lifecycle.md R106) -/

@[simp] theorem State.afterOk_cfg (s : State) (r n : Nat) : (s.afterOk r n).cfg = s.cfg := rfl
@[simp] theorem State.afterOk_irqEn (s : State) (r n : Nat) : (s.afterOk r n).irqEn = s.irqEn := rfl
@[simp] theorem State.afterOk_busy (s : State) (r n : Nat) : (s.afterOk r n).busy = false := rfl
@[simp] theorem State.afterOk_done (s : State) (r n : Nat) : (s.afterOk r n).done = true := rfl
@[simp] theorem State.afterOk_err (s : State) (r n : Nat) : (s.afterOk r n).err = s.err := rfl
@[simp] theorem State.afterOk_ovr (s : State) (r n : Nat) : (s.afterOk r n).ovr = s.ovr := rfl
@[simp] theorem State.afterOk_errcode (s : State) (r n : Nat) : (s.afterOk r n).errcode = s.errcode := rfl
@[simp] theorem State.afterOk_lastop (s : State) (r n : Nat) : (s.afterOk r n).lastop = s.lastop := rfl
@[simp] theorem State.afterOk_opa (s : State) (r n : Nat) : (s.afterOk r n).opa = s.opa := rfl
@[simp] theorem State.afterOk_opb (s : State) (r n : Nat) : (s.afterOk r n).opb = s.opb := rfl
@[simp] theorem State.afterOk_opm (s : State) (r n : Nat) : (s.afterOk r n).opm = s.opm := rfl
@[simp] theorem State.afterOk_result (s : State) (r n : Nat) : (s.afterOk r n).result = BitVec.ofNat 64 r := rfl
@[simp] theorem State.afterOk_steps (s : State) (r n : Nat) : (s.afterOk r n).steps = BitVec.ofNat 64 n := rfl
@[simp] theorem State.afterOk_inflight (s : State) (r n : Nat) : (s.afterOk r n).inflight = none := rfl
@[simp] theorem State.afterOk_response (s : State) (r n : Nat) : (s.afterOk r n).response = s.response := rfl
@[simp] theorem State.afterOk_hostFault (s : State) (r n : Nat) : (s.afterOk r n).hostFault = s.hostFault := rfl
@[simp] theorem State.afterOk_agenda (s : State) (r n : Nat) : (s.afterOk r n).agenda = s.agenda := rfl

/-! ### State.afterErr (40_command_lifecycle.md R107) -/

@[simp] theorem State.afterErr_cfg (s : State) (code : Nibble) (n : Nat) : (s.afterErr code n).cfg = s.cfg := rfl
@[simp] theorem State.afterErr_irqEn (s : State) (code : Nibble) (n : Nat) : (s.afterErr code n).irqEn = s.irqEn := rfl
@[simp] theorem State.afterErr_busy (s : State) (code : Nibble) (n : Nat) : (s.afterErr code n).busy = false := rfl
@[simp] theorem State.afterErr_done (s : State) (code : Nibble) (n : Nat) : (s.afterErr code n).done = true := rfl
@[simp] theorem State.afterErr_err (s : State) (code : Nibble) (n : Nat) : (s.afterErr code n).err = true := rfl
@[simp] theorem State.afterErr_ovr (s : State) (code : Nibble) (n : Nat) : (s.afterErr code n).ovr = s.ovr := rfl
@[simp] theorem State.afterErr_errcode (s : State) (code : Nibble) (n : Nat) : (s.afterErr code n).errcode = code := rfl
@[simp] theorem State.afterErr_lastop (s : State) (code : Nibble) (n : Nat) : (s.afterErr code n).lastop = s.lastop := rfl
@[simp] theorem State.afterErr_opa (s : State) (code : Nibble) (n : Nat) : (s.afterErr code n).opa = s.opa := rfl
@[simp] theorem State.afterErr_opb (s : State) (code : Nibble) (n : Nat) : (s.afterErr code n).opb = s.opb := rfl
@[simp] theorem State.afterErr_opm (s : State) (code : Nibble) (n : Nat) : (s.afterErr code n).opm = s.opm := rfl
@[simp] theorem State.afterErr_result (s : State) (code : Nibble) (n : Nat) : (s.afterErr code n).result = s.result := rfl
@[simp] theorem State.afterErr_steps (s : State) (code : Nibble) (n : Nat) : (s.afterErr code n).steps = BitVec.ofNat 64 n := rfl
@[simp] theorem State.afterErr_inflight (s : State) (code : Nibble) (n : Nat) : (s.afterErr code n).inflight = none := rfl
@[simp] theorem State.afterErr_response (s : State) (code : Nibble) (n : Nat) : (s.afterErr code n).response = s.response := rfl
@[simp] theorem State.afterErr_hostFault (s : State) (code : Nibble) (n : Nat) : (s.afterErr code n).hostFault = s.hostFault := rfl
@[simp] theorem State.afterErr_agenda (s : State) (code : Nibble) (n : Nat) : (s.afterErr code n).agenda = s.agenda := rfl

/-! ### State.respond (10_state.md R21) -/

@[simp] theorem State.respond_cfg (s : State) (r : Option Response) : (s.respond r).cfg = s.cfg := rfl
@[simp] theorem State.respond_irqEn (s : State) (r : Option Response) : (s.respond r).irqEn = s.irqEn := rfl
@[simp] theorem State.respond_busy (s : State) (r : Option Response) : (s.respond r).busy = s.busy := rfl
@[simp] theorem State.respond_done (s : State) (r : Option Response) : (s.respond r).done = s.done := rfl
@[simp] theorem State.respond_err (s : State) (r : Option Response) : (s.respond r).err = s.err := rfl
@[simp] theorem State.respond_ovr (s : State) (r : Option Response) : (s.respond r).ovr = s.ovr := rfl
@[simp] theorem State.respond_errcode (s : State) (r : Option Response) : (s.respond r).errcode = s.errcode := rfl
@[simp] theorem State.respond_lastop (s : State) (r : Option Response) : (s.respond r).lastop = s.lastop := rfl
@[simp] theorem State.respond_opa (s : State) (r : Option Response) : (s.respond r).opa = s.opa := rfl
@[simp] theorem State.respond_opb (s : State) (r : Option Response) : (s.respond r).opb = s.opb := rfl
@[simp] theorem State.respond_opm (s : State) (r : Option Response) : (s.respond r).opm = s.opm := rfl
@[simp] theorem State.respond_result (s : State) (r : Option Response) : (s.respond r).result = s.result := rfl
@[simp] theorem State.respond_steps (s : State) (r : Option Response) : (s.respond r).steps = s.steps := rfl
@[simp] theorem State.respond_inflight (s : State) (r : Option Response) : (s.respond r).inflight = s.inflight := rfl
@[simp] theorem State.respond_response (s : State) (r : Option Response) : (s.respond r).response = r := rfl
@[simp] theorem State.respond_hostFault (s : State) (r : Option Response) : (s.respond r).hostFault = s.hostFault := rfl
@[simp] theorem State.respond_agenda (s : State) (r : Option Response) : (s.respond r).agenda = s.agenda := rfl

/-! ### State.schedule (00_scope.md R19) -/

@[simp] theorem State.schedule_cfg (s : State) (l : List Event) : (s.schedule l).cfg = s.cfg := rfl
@[simp] theorem State.schedule_irqEn (s : State) (l : List Event) : (s.schedule l).irqEn = s.irqEn := rfl
@[simp] theorem State.schedule_busy (s : State) (l : List Event) : (s.schedule l).busy = s.busy := rfl
@[simp] theorem State.schedule_done (s : State) (l : List Event) : (s.schedule l).done = s.done := rfl
@[simp] theorem State.schedule_err (s : State) (l : List Event) : (s.schedule l).err = s.err := rfl
@[simp] theorem State.schedule_ovr (s : State) (l : List Event) : (s.schedule l).ovr = s.ovr := rfl
@[simp] theorem State.schedule_errcode (s : State) (l : List Event) : (s.schedule l).errcode = s.errcode := rfl
@[simp] theorem State.schedule_lastop (s : State) (l : List Event) : (s.schedule l).lastop = s.lastop := rfl
@[simp] theorem State.schedule_opa (s : State) (l : List Event) : (s.schedule l).opa = s.opa := rfl
@[simp] theorem State.schedule_opb (s : State) (l : List Event) : (s.schedule l).opb = s.opb := rfl
@[simp] theorem State.schedule_opm (s : State) (l : List Event) : (s.schedule l).opm = s.opm := rfl
@[simp] theorem State.schedule_result (s : State) (l : List Event) : (s.schedule l).result = s.result := rfl
@[simp] theorem State.schedule_steps (s : State) (l : List Event) : (s.schedule l).steps = s.steps := rfl
@[simp] theorem State.schedule_inflight (s : State) (l : List Event) : (s.schedule l).inflight = s.inflight := rfl
@[simp] theorem State.schedule_response (s : State) (l : List Event) : (s.schedule l).response = s.response := rfl
@[simp] theorem State.schedule_hostFault (s : State) (l : List Event) : (s.schedule l).hostFault = s.hostFault := rfl
@[simp] theorem State.schedule_agenda (s : State) (l : List Event) : (s.schedule l).agenda = l := rfl

end Sys2Proof.Machine
end

