-- ==== Sys2Proof/Laws/Ops.lean ====
section
/-! SUPPORT. One lemma for each shared operation, saying what it can do. -/

namespace Sys2Proof.Machine

/-! ### Loops -/

/-- A loop's outcome is some trip count k within the budget: the guard held before each of the k trips, and it fails
after them unless the budget is used up. -/
theorem whileLoop_spec {α : Type} (guard : α → Bool) (body : α → α) (fuel : Nat) (x : α) :
    ∃ k ≤ fuel, whileLoop guard body fuel x = body^[k] x ∧
      (∀ j < k, guard (body^[j] x) = true) ∧ (k < fuel → guard (body^[k] x) = false) := by
  induction fuel generalizing x with
  | zero => exact ⟨0, le_refl 0, rfl, by simp, by simp⟩
  | succ fuel ih =>
    by_cases hx : guard x = true
    · obtain ⟨k, hk, hw, hj, hend⟩ := ih (body x)
      refine ⟨k + 1, by omega, ?_, ?_, ?_⟩
      · simpa [whileLoop, hx] using hw
      · intro j hjk
        cases j with
        | zero => exact hx
        | succ j => exact hj j (by omega)
      · intro hlt
        exact hend (by omega)
    · exact ⟨0, by omega, by simp [whileLoop, hx], by simp, by simpa using hx⟩

/-- A loop whose guard fails at once makes no trip. -/
theorem whileLoop_stop {α : Type} {guard : α → Bool} {body : α → α} {fuel : Nat} {x : α}
    (h : guard x = false) : whileLoop guard body fuel x = x := by
  cases fuel <;> simp [whileLoop, h]

/-- A loop whose guard first fails after k trips, with k within the budget, makes exactly k trips. -/
theorem whileLoop_eq_iterate {α : Type} {guard : α → Bool} {body : α → α} {fuel k : Nat} {x : α} (hk : k ≤ fuel)
    (hrun : ∀ j < k, guard (body^[j] x) = true) (hend : guard (body^[k] x) = false) :
    whileLoop guard body fuel x = body^[k] x := by
  induction k generalizing fuel x with
  | zero => exact whileLoop_stop hend
  | succ k ih =>
    cases fuel with
    | zero => omega
    | succ fuel =>
      have h0 : guard x = true := hrun 0 (by omega)
      simpa [whileLoop, h0] using ih (x := body x) (by omega) (fun j hj => hrun (j + 1) (by omega)) hend

/-! ### Register width -/

theorem fitWord_toNat (c : Config) (n : Nat) (hw : c.width ≤ 64) : (fitWord c n).toNat = n % 2 ^ c.width := by
  have hpos : 0 < 2 ^ c.width := Nat.two_pow_pos _
  have hle : 2 ^ c.width ≤ 2 ^ 64 := Nat.pow_le_pow_right (by omega) hw
  have hlt : n % 2 ^ c.width < 2 ^ 64 := lt_of_lt_of_le (Nat.mod_lt _ hpos) hle
  simpa [fitWord] using hlt

theorem fitWord_fits (c : Config) (n : Nat) (hw : c.width ≤ 64) : Fits c (fitWord c n) := by
  rw [Fits, fitWord_toNat c n hw]
  exact Nat.mod_lt _ (Nat.two_pow_pos _)

theorem fitWord_of_lt (c : Config) (n : Nat) (h : n < 2 ^ c.width) : fitWord c n = BitVec.ofNat 64 n := by
  rw [fitWord, Nat.mod_eq_of_lt h]

/-! ### The command lifecycle -/

theorem State.succeed_eq_afterOk (s : State) (r n : Nat) (hr : r < 2 ^ s.cfg.width) (hn : n < 2 ^ s.cfg.width) :
    s.succeed r n = s.afterOk r n := by
  simp [State.succeed, State.afterOk, fitWord_of_lt, hr, hn]

theorem State.fail_eq_afterErr (s : State) (e : CommandError) (n : Nat) (hn : n < 2 ^ s.cfg.width) :
    s.fail e n = s.afterErr e.code n := by
  simp [State.fail, State.afterErr, fitWord_of_lt, hn]

/-- The completion of a command in flight commits what Exec returns (40_command_lifecycle.md R105). -/
theorem completeWith_inFlight (f : Latch → ExecResult) {s : State} {h : Latch} (hs : s.InFlight h) :
    completeWith f s = .next (s.commit (f h)) := by
  simp [completeWith, hs.1, hs.2]

/-- An idle engine does nothing (60_exceptions.md R179). -/
theorem completeWith_idle (f : Latch → ExecResult) {s : State} (hs : s.busy = false) :
    completeWith f s = .next s := by
  simp [completeWith, hs]

/-- All a completion that answers a next state can have done. -/
theorem completeWith_next {f : Latch → ExecResult} {s t : State} (ht : completeWith f s = .next t) :
    (s.busy = false ∧ t = s) ∨ ∃ h, s.InFlight h ∧ t = s.commit (f h) := by
  cases hb : s.busy with
  | false =>
    rw [completeWith_idle f hb] at ht
    exact .inl ⟨rfl, by injection ht with ht; exact ht.symm⟩
  | true =>
    cases hi : s.inflight with
    | none => simp [completeWith, hb, hi] at ht
    | some h =>
      rw [completeWith_inFlight f ⟨hb, hi⟩] at ht
      exact .inr ⟨h, ⟨hb, hi⟩, by injection ht with ht; exact ht.symm⟩

theorem State.issueCommand_busy {s : State} (v : Word) (hs : s.busy = true) : s.issueCommand v = s.overrun := by
  simp [State.issueCommand, hs]

theorem State.issueCommand_illegal {s : State} {v : Word} (hs : s.busy = false) (hv : decode v = none) :
    s.issueCommand v = (s.accept (opField v)).fail .illegalCommand 0 := by
  simp [State.issueCommand, hs, hv]

theorem State.issueCommand_legal {s : State} {v : Word} {op : Instr} (hs : s.busy = false)
    (hv : decode v = some op) : s.issueCommand v = (s.accept (opField v)).startCommand op := by
  simp [State.issueCommand, hs, hv]

/-! ### The bus -/

theorem State.memRead_legal {s : State} {off : Offset} {size : Nat} (h : legalAccess off size = true) :
    s.memRead off size = s.respond (some (.okayData (s.readWord off))) := by
  simp [State.memRead, h]

theorem State.memRead_illegal {s : State} {off : Offset} {size : Nat} (h : legalAccess off size = false) :
    s.memRead off size = s.busError := by
  simp [State.memRead, h]

theorem State.memWrite_legal {s : State} {off : Offset} {size : Nat} (v : Word)
    (h : legalAccess off size = true) :
    s.memWrite off size v = (s.writeWord off v).respond (some .okay) := by
  simp [State.memWrite, h]

theorem State.memWrite_illegal {s : State} {off : Offset} {size : Nat} (v : Word)
    (h : legalAccess off size = false) : s.memWrite off size v = s.busError := by
  simp [State.memWrite, h]

/-- The bus address BASE + off reaches offset off (20_memory.md R61). -/
theorem windowOffset_base (c : Config) (off : Offset) : windowOffset c (c.base + off.toNat) = some off := by
  have h := off.isLt
  simp [windowOffset, h]

/-- What a transaction does: nothing outside the window, else one access at its offset. -/
theorem State.transact_cases (s : State) (tr : Transaction) :
    s.transact tr = s ∨ (∃ off size, s.transact tr = s.memRead off size) ∨
      ∃ off size v, s.transact tr = s.memWrite off size v := by
  cases tr with
  | read addr size =>
    cases h : windowOffset s.cfg addr with
    | none => exact .inl (by simp [State.transact, h])
    | some off => exact .inr (.inl ⟨off, size, by simp [State.transact, h]⟩)
  | write addr size v =>
    cases h : windowOffset s.cfg addr with
    | none => exact .inl (by simp [State.transact, h])
    | some off => exact .inr (.inr ⟨off, size, v, by simp [State.transact, h]⟩)

/-! ### The step -/

/-- All a step can have done, from the state that has given up its event and its last response: the engine's own move, a
transaction, a scheduled completion, or a hardware reset. -/
theorem step_cases (s : State) :
    (s.agenda = [] ∧ step s = (s.respond none).completion) ∨
    (∃ tr rest, s.agenda = .bus tr :: rest ∧
      step s = .next (((s.respond none).schedule rest).transact tr)) ∨
    (∃ rest, s.agenda = .completion :: rest ∧ step s = ((s.respond none).schedule rest).completion) ∨
    (∃ rest, s.agenda = .hardwareReset :: rest ∧
      step s = .next ((s.respond none).schedule rest).blockReset) := by
  cases h : s.agenda with
  | nil => exact .inl ⟨rfl, by simp [step, State.advance, h]⟩
  | cons e rest =>
    cases e with
    | bus tr => exact .inr (.inl ⟨tr, rest, rfl, by simp [step, State.advance, State.perform, h]⟩)
    | completion => exact .inr (.inr (.inl ⟨rest, rfl, by simp [step, State.advance, State.perform, h]⟩))
    | hardwareReset => exact .inr (.inr (.inr ⟨rest, rfl, by simp [step, State.advance, State.perform, h]⟩))

/-! ### Runs -/

theorem run_zero (s : State) : Host.Core.run core 0 s = .next s := by
  simp [Host.Core.run]

/-- A run of n + 1 steps whose first step answers u is a run of n steps from u. -/
theorem run_succ {n : Nat} {s u : State} (h : step s = .next u) :
    Host.Core.run core (n + 1) s = Host.Core.run core n u := by
  have h' : core.step s = .next u := h
  simp only [Host.Core.run, h']

end Sys2Proof.Machine
end

