-- ==== Sys2Proof/Laws/PerInstr.lean ====
section
/-! SUPPORT. The family TableWord: the word of spec/opcode_table.json decodes to its command and is its encoding. -/

namespace Sys2Proof.Laws.TableWord

/-- The number spec/opcode_table.json gives as the row's match (30_encoding.md R83). -/
def tableMatch : Instr → Nat
  | .modadd => 0x0000000000000001
  | .modmul => 0x0000000000000002
  | .modpow => 0x0000000000000003
  | .gcd    => 0x0000000000000004
  | .modinv => 0x0000000000000005

/-- The row's word is the command's encoding and decodes to it, as a word, as bytes and as a numbered table word. -/
def Statement (i : Instr) : Prop :=
  i.wellFormed = true ∧ encode i = BitVec.ofNat 64 (tableMatch i) ∧ decode (encode i) = some i ∧
    decodeBytes (encodeBytes i) = some i ∧ decodeTableWord 64 (tableMatch i) = some i

theorem modadd : Statement .modadd := by unfold Statement; decide
theorem modmul : Statement .modmul := by unfold Statement; decide
theorem modpow : Statement .modpow := by unfold Statement; decide
theorem gcd : Statement .gcd := by unfold Statement; decide
theorem modinv : Statement .modinv := by unfold Statement; decide

end Sys2Proof.Laws.TableWord
end

