-- ==== Sys2Proof/Tests/Slice0.lean ====
section
/-! SUPPORT. Tests: expected values from spec/30_encoding.md and from the vectors of spec/95_test_vectors.md, and a
witness for the hypotheses of every statement that has some. -/

namespace Sys2Proof.Tests

open Sys2Proof.Machine

/-! ### Well-formedness: each check refuses an ill-formed term -/

theorem test_wf_reference : Config.reference.wellFormed = true := by decide
theorem test_wf_width_too_small : Config.wellFormed { width := 1, base := 0 } = false := by decide
theorem test_wf_width_too_large : Config.wellFormed { width := 65, base := 0 } = false := by decide
theorem test_wf_base_misaligned : Config.wellFormed { width := 64, base := 64 } = false := by decide
theorem test_wf_width_limits :
    Config.wellFormed { width := 2, base := 128 } = true ∧ Config.wellFormed { width := 64, base := 128 } = true := by
  decide
theorem test_wf_instr : Instr.modadd.wellFormed = true := by decide

/-! ### Decoding: words written out from 30_encoding.md R81 and R83 (RSVD, then OP) -/

theorem test_decode_modadd : decode (0#60 ++ 0b0001#4) = some .modadd := by decide
theorem test_decode_modmul : decode (0#60 ++ 0b0010#4) = some .modmul := by decide
theorem test_decode_modpow : decode (0#60 ++ 0b0011#4) = some .modpow := by decide
theorem test_decode_gcd : decode (0#60 ++ 0b0100#4) = some .gcd := by decide
theorem test_decode_modinv : decode (0#60 ++ 0b0101#4) = some .modinv := by decide
/-- 30_encoding.md R84 and R89. -/
theorem test_decode_illegal :
    decode (0#60 ++ 0b0000#4) = none ∧ decode (0#60 ++ 0b0110#4) = none ∧ decode (0#60 ++ 0b1111#4) = none ∧
      decode (1#60 ++ 0b0011#4) = none := by decide
/-- 20_memory.md R63: the byte with OP lies at the lowest address. -/
theorem test_decode_bytes :
    decodeBytes [0x04, 0, 0, 0, 0, 0, 0, 0] = some .gcd ∧ decodeBytes [0, 0, 0, 0, 0, 0, 0, 0x04] = none ∧
      decodeBytes [0x04] = none := by decide

/-! ### Small states -/

/-- Command op in flight on a reset machine of width w, its operands still in the operand registers. -/
def inFlight (w : Nat) (op : Instr) (a b m : Word) : State :=
  { State.resetWith { width := w, base := 0x1000 } with
    busy := true, lastop := opcode op, opa := a, opb := b, opm := m
    inflight := some { op := op, a := a, b := b, m := m } }

/-- The latch of `inFlight`. -/
def latchOf (op : Instr) (a b m : Word) : Latch := { op := op, a := a, b := b, m := m }

/-- A reset machine of width w with these events to come. -/
def withEvents (w : Nat) (l : List Event) : State :=
  { State.resetWith { width := w, base := 0x1000 } with agenda := l }

/-- RESULT, STEPS and STATUS of the next state, if there is one. -/
def seen : Host.Outcome State Fault Refusal → Option (Nat × Nat × Nat)
  | .next t    => some (t.result.toNat, t.steps.toNat, t.statusWord.toNat)
  | .fault _   => none
  | .refused _ => none

/-! ### The commands: two vectors of 95_test_vectors.md section 2 each -/

/-- A-5: the carry is kept. -/
theorem test_modadd_carry :
    seen (exec .modadd (inFlight 64 .modadd (-1#64) 1 (-1#64))) = some (1, 1, 0x00010002) := by decide
/-- A-10. -/
theorem test_modadd_modulus_zero :
    seen (exec .modadd (inFlight 64 .modadd 1 2 0)) = some (0, 0, 0x00010206) := by decide
/-- M-5: the product needs 128 bits. -/
theorem test_modmul_wide :
    seen (exec .modmul (inFlight 64 .modmul (-1#64) (-1#64) 0xFFFFFFFFFFFFFFC5)) = some (3364, 1, 0x00020002) := by
  decide
/-- M-9. -/
theorem test_modmul_modulus_zero :
    seen (exec .modmul (inFlight 64 .modmul 7 8 0)) = some (0, 0, 0x00020206) := by decide
/-- P-1, the source's own vector S1. -/
theorem test_modpow_source :
    seen (exec .modpow (inFlight 64 .modpow 65 17 3233)) = some (2790, 5, 0x00030002) := by decide
/-- P-8: modulus 1 wins over exponent 0. -/
theorem test_modpow_modulus_one :
    seen (exec .modpow (inFlight 64 .modpow 9 0 1)) = some (0, 0, 0x00030002) := by decide
/-- G-3: the first trip swaps. -/
theorem test_gcd_swaps : seen (exec .gcd (inFlight 64 .gcd 18 48 0)) = some (6, 4, 0x00040002) := by decide
/-- G-10: the longest run of the table. -/
theorem test_gcd_fibonacci :
    seen (exec .gcd (inFlight 64 .gcd 12200160415121876738 7540113804746346429 0)) = some (1, 91, 0x00040002) := by
  decide
/-- I-7: A = n = 1, where the last reduction matters. -/
theorem test_modinv_one_one : seen (exec .modinv (inFlight 64 .modinv 1 0 1)) = some (0, 1, 0x00050002) := by decide
/-- I-11. -/
theorem test_modinv_no_inverse :
    seen (exec .modinv (inFlight 64 .modinv 6 0 9)) = some (0, 2, 0x00050306) := by decide
/-- I-17: A > n, and a negative raw T. -/
theorem test_modinv_unreduced :
    seen (exec .modinv (inFlight 64 .modinv 3233 0 3120)) = some (497, 9, 0x00050002) := by decide

/-! ### The register interface: vectors of 95_test_vectors.md section 2.6 -/

/-- R-1 and R-2. -/
theorem test_id :
    (withEvents 64 []).readWord 0x00#7 = 0x003E0140#64 ∧ (withEvents 16 []).readWord 0x00#7 = 0x003E0110#64 := by
  decide
/-- R-4: W = 16 keeps the low 16 bits. -/
theorem test_operand_width : ((withEvents 16 []).memWrite 0x20#7 8 0x12345#64).readWord 0x20#7 = 0x2345#64 := by
  decide
/-- R-8: a misaligned write that overlaps CMD issues nothing. -/
theorem test_misaligned_write :
    ((withEvents 64 []).memWrite 0x1C#7 8 3).response = some .error ∧
      ((withEvents 64 []).memWrite 0x1C#7 8 3).statusWord = 0#64 := by decide
/-- R-10. -/
theorem test_illegal_command : ((withEvents 64 []).memWrite 0x18#7 8 0x13#64).statusWord = 0x00030106#64 := by decide
/-- R-13: W1C of ERR clears ERRCODE and keeps DONE. -/
theorem test_clear_err :
    (((withEvents 64 []).memWrite 0x18#7 8 0#64).memWrite 0x10#7 8 0x4#64).statusWord = 0x00000002#64 := by decide
/-- R-17: the reset wins over IRQ_EN. -/
theorem test_soft_reset : ((withEvents 64 []).memWrite 0x08#7 8 0x3#64).ctrlWord = 0#64 := by decide
/-- R-20: the dropped CMD write leaves the GCD in flight. -/
theorem test_overrun :
    seen (exec .gcd ((inFlight 64 .gcd 48 18 0).memWrite 0x18#7 8 5)) = some (6, 3, 0x0004000A) := by decide
/-- A command placed for the next step runs in it (here with OPM = 0 after reset: INVALID_MODULUS). -/
theorem test_placed_command : seen (step (State.reset.withFetchWord 64 2)) = some (0, 0, 0x00020206) := by decide
/-- A transaction at BASE + 0x18 is a CMD write (20_memory.md R61). -/
theorem test_step_issues :
    seen (step (withEvents 64 [.bus (.write 0x1018 8 4)])) = some (0, 0, 0x00040001) := by decide

/-! ### Witnesses: states and operands that meet each statement's hypotheses, at the edges of its clauses -/

theorem witness_DecoderIsTheOpcodeMap :
    decode 5#64 = some .modinv ∧ decode 6#64 = none ∧ decode 16#64 = none ∧ decode 1#64 = some .modadd := by decide
theorem witness_BytesDecodeIffEncoded : ∀ i : Instr, i.wellFormed = true := by intro i; cases i <;> decide
theorem witness_ByteLanesLittleEndian : byteLane 0xFF00000000000001#64 7 = 0xFF#8 ∧
    byteLane 0xFF00000000000001#64 0 = 0x01#8 := by decide
theorem witness_StepRunsDecodedCommand :
    (withEvents 64 [.bus (.write 0x1018 8 4)]).busy = false ∧ decode 4#64 = some .gcd ∧
      (withEvents 64 [.bus (.write 0x1018 8 4)]).agenda = [.bus (.write ((0x1000 : Nat) + 0x18) 8 4)] ∧
      (withEvents 64 [.bus (.write 0x1018 8 4), .completion]).agenda =
        .bus (.write ((0x1000 : Nat) + 0x18) 8 4) :: .completion :: [] := by decide
theorem witness_PlacedCommandRunsNext : decode 1#64 = some .modadd := by decide
theorem witness_StepTakesTheNextEvent_bus :
    (withEvents 64 [.bus (.read 0x1000 8)]).agenda = .bus (.read 0x1000 8) :: [] := rfl
theorem witness_StepTakesTheNextEvent_completion :
    ((inFlight 64 .gcd 4 2 0).schedule [.completion]).agenda = .completion :: [] ∧
      ((inFlight 64 .gcd 4 2 0).schedule [.completion]).InFlight (latchOf .gcd 4 2 0) := by decide
theorem witness_StepTakesTheNextEvent_idle :
    (withEvents 64 [.completion]).agenda = .completion :: [] ∧ (withEvents 64 [.completion]).busy = false := by decide
theorem witness_StepTakesTheNextEvent_reset :
    (withEvents 64 [.hardwareReset]).agenda = .hardwareReset :: [] := rfl
theorem witness_OverrunDropsTheWord : (inFlight 64 .gcd 4 2 0).busy = true := rfl
theorem witness_IllegalCommandCompletesAtOnce :
    (withEvents 64 []).Inv ∧ (withEvents 64 []).busy = false ∧ decode 0#64 = none := by decide
theorem witness_LegalCommandLatchesOperands :
    (withEvents 64 []).busy = false ∧ decode 5#64 = some .modinv := by decide
/-- The hypotheses of every statement about a command in flight (CommandCompletes, IgnoredOperands,
CompletionRaisesIrq, LateOperandWrites, CommandErrorCodes, StepCountBound, ModaddResult, ModmulResult,
ModpowRunsItsLoop, ModpowIsExactPower, GcdRunsItsLoop, GcdIsGreatestCommonDivisor, ModinvRunsItsLoop), with modulus 0,
1, 2 and the largest, and with W = 2. -/
theorem witness_InFlight :
    (inFlight 64 .modadd 5 7 0).Inv ∧ (inFlight 64 .modadd 5 7 0).InFlight (latchOf .modadd 5 7 0) ∧
    (inFlight 64 .modpow 5 7 1).Inv ∧ (inFlight 64 .modpow 5 7 1).InFlight (latchOf .modpow 5 7 1) ∧
    (inFlight 64 .modpow 5 0 2).Inv ∧ (inFlight 64 .modpow 5 0 2).InFlight (latchOf .modpow 5 0 2) ∧
    (inFlight 64 .modmul (-1) (-1) (-1)).Inv ∧
      (inFlight 64 .modmul (-1) (-1) (-1)).InFlight (latchOf .modmul (-1) (-1) (-1)) ∧
    (inFlight 64 .gcd 0 0 0).Inv ∧ (inFlight 64 .gcd 0 0 0).InFlight (latchOf .gcd 0 0 0) ∧
    (inFlight 2 .modinv 3 0 2).Inv ∧ (inFlight 2 .modinv 3 0 2).InFlight (latchOf .modinv 3 0 2) :=
  ⟨by decide, by decide, by decide, by decide, by decide, by decide, by decide, by decide, by decide, by decide,
    by decide, by decide⟩
/-- An idle block: the hypothesis of IdleEngineDoesNothing, and of the first clause of ModaddResult, ModmulResult,
ModpowRunsItsLoop, GcdRunsItsLoop and ModinvRunsItsLoop. -/
theorem witness_IdleEngineDoesNothing : (withEvents 64 []).busy = false := rfl
theorem witness_CommandFrame :
    ∃ t, exec .modmul (inFlight 64 .modmul 7 8 0) = .next t ∧ t.err = true ∧ (inFlight 64 .modmul 7 8 0).err = false :=
  ⟨_, rfl, by decide, rfl⟩
theorem witness_OutcomeDependsOnlyOnLatches :
    (inFlight 64 .modadd 5 7 10).Inv ∧ State.Inv { inFlight 64 .modadd 5 7 10 with opa := 9, result := 1 } ∧
      (inFlight 64 .modadd 5 7 10).InFlight (latchOf .modadd 5 7 10) ∧
      State.InFlight { inFlight 64 .modadd 5 7 10 with opa := 9, result := 1 } (latchOf .modadd 5 7 10) ∧
      (∃ t, exec .modadd (inFlight 64 .modadd 5 7 10) = .next t ∧ t.err = false) ∧
      ∃ t, exec .modadd { inFlight 64 .modadd 5 7 10 with opa := 9, result := 1 } = .next t :=
  ⟨by decide, by decide, by decide, by decide, ⟨_, rfl, by decide⟩, ⟨_, rfl⟩⟩
theorem witness_CommandErrorCodes :
    Nat.gcd (6#64).toNat (9#64).toNat ≠ 1 ∧ Nat.gcd (3#64).toNat (7#64).toNat = 1 := by decide
theorem witness_ResultInRange :
    (∃ t, exec .gcd (inFlight 64 .gcd 48 18 0) = .next t ∧ t.err = false) ∧
      ∃ t, exec .modadd (inFlight 64 .modadd 5 7 10) = .next t ∧ t.err = false :=
  ⟨⟨_, rfl, by decide⟩, ⟨_, rfl, by decide⟩⟩
theorem witness_GcdIsGreatestCommonDivisor :
    (inFlight 64 .gcd 7 0 0).Inv ∧ (0#64).toNat = 0 ∧ (inFlight 64 .gcd 0 7 0).Inv := by decide
theorem witness_ModinvIsInverse :
    (inFlight 64 .modinv 0 0 1).Inv ∧ (inFlight 64 .modinv 0 0 1).InFlight (latchOf .modinv 0 0 1) ∧
      1 ≤ (1#64).toNat ∧ Nat.gcd (0#64).toNat (1#64).toNat = 1 ∧
    (inFlight 64 .modinv 0 0 7).Inv ∧ (inFlight 64 .modinv 0 0 7).InFlight (latchOf .modinv 0 0 7) ∧
      1 ≤ (7#64).toNat ∧ Nat.gcd (0#64).toNat (7#64).toNat ≠ 1 := by decide
theorem witness_ModinvCoefficientsBounded :
    (1 ≤ 7 ∧ ∀ j < 2, (invTrip^[j] (invStart 3 7)).newr ≠ 0) ∧ (invTrip^[2] (invStart 3 7)).newr = 0 ∧
      (invTrip^[2] (invStart 3 7)).r = 1 ∧ ¬(3 = 1 ∧ 7 = 1) := by decide
theorem witness_ModinvUnreducedOperand :
    (inFlight 64 .modinv 10 0 7).Inv ∧ (inFlight 64 .modinv 10 0 7).InFlight (latchOf .modinv 10 0 7) ∧
      1 ≤ (7#64).toNat ∧ (7#64).toNat < (10#64).toNat ∧
    (inFlight 64 .modinv 2 0 1).Inv ∧ (1#64).toNat < (2#64).toNat := by decide
theorem witness_IdRegister :
    (withEvents 64 []).cfg.wellFormed = true ∧ (withEvents 64 []).cfg.width = 64 ∧
      (withEvents 2 []).cfg.wellFormed = true := by decide
theorem witness_OperandRegisterWrite : (withEvents 2 []).cfg.wellFormed = true := by decide
theorem witness_ReadsReturnTheRegisters : (0x78#7 : Offset).toNat % 8 = 0 ∧ (0x10#7 : Offset).toNat % 8 = 0 := by decide
theorem witness_ReservedWords :
    ((0x48#7 : Offset).toNat % 8 = 0 ∧ 0x48 ≤ (0x48#7 : Offset).toNat) ∧
      ((0x78#7 : Offset).toNat % 8 = 0 ∧ 0x48 ≤ (0x78#7 : Offset).toNat) := by decide
theorem witness_IllegalAccessChangesNothing :
    (4 ≠ 8 ∨ (0x14#7 : Offset).toNat % 8 ≠ 0) ∧ (0x7F#7 : Offset).toNat % 8 ≠ 0 ∧ (0x78#7 : Offset).toNat % 8 = 0 := by
  decide
theorem witness_WindowDecodesItsAddresses :
    (0xFFF < (withEvents 64 []).cfg.base) ∧ (withEvents 64 []).cfg.base + 128 ≤ 0x1080 := by decide
theorem witness_HostFaultIsNeverCleared :
    (∃ t, step { withEvents 64 [.hardwareReset] with hostFault := true } = .next t) ∧
      ∃ t, step (withEvents 64 [.bus (.read 0x1014 4)]) = .next t ∧ t.response = some .error ∧ t.hostFault = true :=
  ⟨⟨_, rfl⟩, ⟨_, rfl, by decide, by decide⟩⟩
theorem witness_LegalHostsCauseNoBusError :
    (withEvents 64 [.bus (.read 0x1078 8), .bus (.read 0x1080 4)]).BusErrorFree ∧
      Transaction.isLegal { width := 64, base := 0x1000 } (.read 0x1078 8) = true ∧
      Transaction.isLegal { width := 64, base := 0x1000 } (.read 0x1080 4) = true ∧
      ∃ t, Host.Core.run core 1 (withEvents 64 [.bus (.read 0x1078 8), .bus (.read 0x1080 4)]) = .next t :=
  ⟨rfl, by decide, by decide, ⟨_, run_succ rfl⟩⟩
theorem witness_HostClearsIrq :
    (0x2#64)[1] = true ∧ (withEvents 64 []).busy = false ∧ (decode 4#64).isSome = true ∧
      ((0x0#64)[1] = false ∧ (0x0#64)[0] = false) ∧ ((0x1#64)[1] = false ∧ (0x1#64)[0] = true) := by decide
theorem witness_BothResetsAgree :
    (0x3#64)[1] = true ∧ (withEvents 64 [.hardwareReset]).agenda = .hardwareReset :: [] ∧
      (withEvents 64 [.bus (.write 0x1008 8 3)]).agenda = .bus (.write ((0x1000 : Nat) + 0x08) 8 3) :: [] := by decide
theorem witness_ResetAbortsTheCommand :
    (∀ e ∈ [Event.completion, .completion, .bus (.write 0x1018 8 4)].take 2, e = .completion) ∧
      ∀ e ∈ [Event.completion, .bus (.write 0x1008 8 3), .bus (.write 0x1018 4 4), .bus (.write 0x1018 8 4)].take 3,
        e.isIssue { width := 64, base := 0x1000 } = false := by decide
theorem witness_ResetHasTheInvariant :
    Config.wellFormed { width := 2, base := 0 } = true ∧ Config.wellFormed { width := 64, base := 128 } = true := by
  decide
/-- The hypotheses of StepKeepsTheInvariant, StepAlwaysAnswers, StepKeepsTheParameters, CommandEventuallyCompletes. -/
theorem witness_StepKeepsTheInvariant :
    (inFlight 64 .gcd 48 18 0).Inv ∧ ∃ t, step (inFlight 64 .gcd 48 18 0) = .next t := ⟨by decide, ⟨_, rfl⟩⟩
theorem witness_BusyWriters :
    (∃ t, step (inFlight 64 .gcd 48 18 0) = .next t ∧ (inFlight 64 .gcd 48 18 0).busy = true ∧ t.busy = false) ∧
      ∃ t, step (withEvents 64 [.bus (.write 0x1018 8 4)]) = .next t ∧ t.busy = true :=
  ⟨⟨_, rfl, rfl, by decide⟩, ⟨_, rfl, by decide⟩⟩
theorem witness_DoneWriters :
    (∃ t, step (withEvents 64 [.bus (.write 0x1018 8 0)]) = .next t ∧ t.done = true) ∧
      ∃ t, step { withEvents 64 [.bus (.write 0x1010 8 2)] with done := true } = .next t ∧ t.done = false :=
  ⟨⟨_, rfl, by decide⟩, ⟨_, rfl, by decide⟩⟩
theorem witness_ErrWriters :
    State.Inv { withEvents 64 [.bus (.write 0x1010 8 4)] with err := true, errcode := 2#4 } ∧
      (∃ t, step { withEvents 64 [.bus (.write 0x1010 8 4)] with err := true, errcode := 2#4 } = .next t ∧
        t.err ≠ true) ∧
      ∃ t, step (inFlight 64 .modinv 6 0 9) = .next t ∧ t.errcode ≠ (inFlight 64 .modinv 6 0 9).errcode :=
  ⟨by decide, ⟨_, rfl, by decide⟩, ⟨_, rfl, by decide⟩⟩
theorem witness_OvrWriters :
    (∃ t, step ((inFlight 64 .gcd 48 18 0).schedule [.bus (.write 0x1018 8 5)]) = .next t ∧ t.ovr = true) ∧
      ∃ t, step { withEvents 64 [.bus (.write 0x1010 8 8)] with ovr := true } = .next t ∧ t.ovr = false :=
  ⟨⟨_, rfl, by decide⟩, ⟨_, rfl, by decide⟩⟩
theorem witness_LastopWriters :
    (∃ t, step (withEvents 64 [.bus (.write 0x1018 8 0x13)]) = .next t ∧ t.lastop ≠ 0#4) ∧
      ∃ t, step { withEvents 64 [.hardwareReset] with lastop := 3#4 } = .next t ∧ t.lastop ≠ 3#4 :=
  ⟨⟨_, rfl, by decide⟩, ⟨_, rfl, by decide⟩⟩
theorem witness_ResultAndStepsWriters :
    (inFlight 64 .gcd 48 18 0).Inv ∧
      (∃ t, step (inFlight 64 .gcd 48 18 0) = .next t ∧ t.result ≠ 0#64 ∧ t.steps ≠ 0#64) ∧
      State.Inv { withEvents 64 [.bus (.write 0x1018 8 0)] with steps := 3 } ∧
      ∃ t, step { withEvents 64 [.bus (.write 0x1018 8 0)] with steps := 3 } = .next t ∧ t.steps ≠ 3#64 :=
  ⟨by decide, ⟨_, rfl, by decide, by decide⟩, by decide, ⟨_, rfl, by decide⟩⟩
theorem witness_HostRegistersWriters :
    (∃ t, step (withEvents 64 [.bus (.write 0x1020 8 5)]) = .next t ∧ t.opa ≠ 0#64) ∧
      (∃ t, step (withEvents 64 [.bus (.write 0x1028 8 5)]) = .next t ∧ t.opb ≠ 0#64) ∧
      (∃ t, step (withEvents 64 [.bus (.write 0x1030 8 5)]) = .next t ∧ t.opm ≠ 0#64) ∧
      ∃ t, step (withEvents 64 [.bus (.write 0x1008 8 1)]) = .next t ∧ t.irqEn ≠ false :=
  ⟨⟨_, rfl, by decide⟩, ⟨_, rfl, by decide⟩, ⟨_, rfl, by decide⟩, ⟨_, rfl, by decide⟩⟩
/-- The one event the step takes is a read; a CMD write stands after it. -/
theorem witness_ReadAfterDone :
    State.Inv { withEvents 64 [.bus (.read 0x1038 8), .bus (.write 0x1018 8 4)] with done := true, result := 6 } ∧
      (∀ e ∈ [Event.bus (.read 0x1038 8), .bus (.write 0x1018 8 4)].take 1,
        e.isIssue { width := 64, base := 0x1000 } = false ∧ e.isReset { width := 64, base := 0x1000 } = false) ∧
      ∃ t, Host.Core.run core 1
        { withEvents 64 [.bus (.read 0x1038 8), .bus (.write 0x1018 8 4)] with done := true, result := 6 } = .next t :=
  ⟨by decide, by decide, ⟨_, run_succ rfl⟩⟩
theorem witness_CommandEventuallyCompletes :
    ((inFlight 64 .gcd 48 18 0).schedule [.bus (.write 0x1020 8 5)]).Inv ∧
      ((inFlight 64 .gcd 48 18 0).schedule [.bus (.write 0x1020 8 5)]).InFlight (latchOf .gcd 48 18 0) ∧
      (∀ e ∈ [Event.bus (.write 0x1020 8 5)],
        e.isIssue { width := 64, base := 0x1000 } = false ∧ e.isReset { width := 64, base := 0x1000 } = false) ∧
      ∀ v : Word, Event.bus (.write ((0x1000 : Nat) + 0x10) 8 v) ∉ [Event.bus (.write 0x1020 8 5)] :=
  ⟨by decide, by decide, by decide, by simp⟩
theorem witness_LateOperandWrites :
    (inFlight 64 .gcd 48 18 0).InFlight (latchOf .gcd 48 18 0) ∧ (0x20#7 = 0x20#7 ∨ 0x20#7 = 0x28#7 ∨ 0x20#7 = 0x30#7) ∧
      (0x30#7 = 0x20#7 ∨ 0x30#7 = 0x28#7 ∨ 0x30#7 = (0x30#7 : Offset)) := by decide
theorem witness_CompletionRace :
    (inFlight 64 .gcd 48 18 0).Inv ∧ (inFlight 64 .gcd 48 18 0).InFlight (latchOf .gcd 48 18 0) ∧
      decode 4#64 = some .gcd ∧ decode 0x13#64 = none := by decide

end Sys2Proof.Tests
end

/-! # The step of 00_scope.md R19: its equations, its frame, and the three statements about it -/

namespace Sys2Proof.Machine

/-! ### The engine's completion, one equation for all five commands -/

/-- What Exec returns for command i on the latch h (40_command_lifecycle.md R105, R108). -/
def execResult (i : Instr) (h : Latch) : ExecResult :=
  match i with
  | .modadd => modaddResult h.operandA h.operandB h.operandM
  | .modmul => modmulResult h.operandA h.operandB h.operandM
  | .modpow => modpowResult h.operandA h.operandB h.operandM
  | .gcd    => gcdResult h.operandA h.operandB
  | .modinv => modinvResult h.operandA h.operandM

theorem exec_eq_completeWith (i : Instr) (s : State) : exec i s = completeWith (execResult i) s := by
  cases i <;> rfl

/-- The completion of a command in flight is exec of its latched opcode (40_command_lifecycle.md R105). -/
theorem State.completion_inFlight {s : State} {h : Latch} (hs : s.InFlight h) : s.completion = exec h.op s := by
  obtain ⟨_, hlatch⟩ := hs
  simp [State.completion, hlatch]

/-- The completion step is the shared one of R105, with the latched opcode choosing Exec. It holds in every state:
with BUSY = 0 both leave it, whether or not a stale latch stands. -/
theorem State.completion_eq_completeWith (s : State) :
    s.completion = completeWith (fun h => execResult h.op h) s := by
  cases hlatch : s.inflight with
  | none => simp [State.completion, completeWith, hlatch]
  | some h => simp [State.completion, exec_eq_completeWith, completeWith, hlatch]

/-- An idle engine does nothing (60_exceptions.md R179). -/
theorem State.completion_idle {s : State} (hs : s.busy = false) : s.completion = .next s := by
  rw [State.completion_eq_completeWith, completeWith_idle _ hs]

/-- R45's "inflight is not none iff BUSY = 1" excludes the completion's one fault. -/
theorem State.completion_answers {s : State} (hs : s.inflight.isSome = s.busy) :
    ∃ t, s.completion = .next t := by
  cases hbusy : s.busy with
  | false => exact ⟨s, State.completion_idle hbusy⟩
  | true =>
    obtain ⟨h, hlatch⟩ := Option.isSome_iff_exists.mp (hs.trans hbusy)
    exact ⟨_, by rw [State.completion_eq_completeWith, completeWith_inFlight _ ⟨hbusy, hlatch⟩]⟩

/-! ### What every operation keeps: the parameters and the events still to come -/

@[simp] theorem State.commit_keeps_cfg_agenda (s : State) (x : ExecResult) :
    (s.commit x).cfg = s.cfg ∧ (s.commit x).agenda = s.agenda := by
  cases x <;> simp [State.commit]

@[simp] theorem State.issueCommand_keeps_cfg_agenda (s : State) (v : Word) :
    (s.issueCommand v).cfg = s.cfg ∧ (s.issueCommand v).agenda = s.agenda := by
  cases hbusy : s.busy with
  | true => simp [State.issueCommand_busy v hbusy]
  | false =>
    cases hv : decode v with
    | none => simp [State.issueCommand_illegal hbusy hv]
    | some op => simp [State.issueCommand_legal hbusy hv]

@[simp] theorem State.writeCtrl_keeps_cfg_agenda (s : State) (v : Word) :
    (s.writeCtrl v).cfg = s.cfg ∧ (s.writeCtrl v).agenda = s.agenda := by
  cases hreset : v[1] <;> simp [State.writeCtrl, hreset]

@[simp] theorem State.writeReg_keeps_cfg_agenda (s : State) (v : Word) (r : Reg) :
    (s.writeReg v r).cfg = s.cfg ∧ (s.writeReg v r).agenda = s.agenda := by
  cases r <;> simp [State.writeReg]

@[simp] theorem State.writeWord_keeps_cfg_agenda (s : State) (off : Offset) (v : Word) :
    (s.writeWord off v).cfg = s.cfg ∧ (s.writeWord off v).agenda = s.agenda := by
  cases hreg : regAt off <;> simp [State.writeWord, hreg]

@[simp] theorem State.memRead_keeps_cfg_agenda (s : State) (off : Offset) (size : Nat) :
    (s.memRead off size).cfg = s.cfg ∧ (s.memRead off size).agenda = s.agenda := by
  cases hlegal : legalAccess off size with
  | true => simp [State.memRead_legal hlegal]
  | false => simp [State.memRead_illegal hlegal]

@[simp] theorem State.memWrite_keeps_cfg_agenda (s : State) (off : Offset) (size : Nat) (v : Word) :
    (s.memWrite off size v).cfg = s.cfg ∧ (s.memWrite off size v).agenda = s.agenda := by
  cases hlegal : legalAccess off size with
  | true => simp [State.memWrite_legal v hlegal]
  | false => simp [State.memWrite_illegal v hlegal]

@[simp] theorem State.transact_keeps_cfg_agenda (s : State) (tr : Transaction) :
    (s.transact tr).cfg = s.cfg ∧ (s.transact tr).agenda = s.agenda := by
  obtain h | ⟨off, size, h⟩ | ⟨off, size, v, h⟩ := s.transact_cases tr <;> simp [h]

theorem State.completion_keeps_cfg_agenda {s t : State} (ht : s.completion = .next t) :
    t.cfg = s.cfg ∧ t.agenda = s.agenda := by
  rw [State.completion_eq_completeWith] at ht
  obtain ⟨_, rfl⟩ | ⟨h, _, rfl⟩ := completeWith_next ht
  · exact ⟨rfl, rfl⟩
  · exact s.commit_keeps_cfg_agenda _

/-! ### The step -/

/-- With an event to come, the step performs it from the state that has given it up (00_scope.md R19). -/
theorem step_of_agenda_cons {s : State} {e : Event} {rest : List Event} (hs : s.agenda = e :: rest) :
    step s = State.perform { s with agenda := rest, response := none } e := by
  simp [step, State.advance, State.respond, State.schedule, hs]

/-- Settles O7: each kind of event by what performing it is, a completion split on BUSY. -/
theorem stepTakesTheNextEvent : Obligations.StepTakesTheNextEvent := by
  intro s rest
  refine ⟨fun tr hs => ?_, fun h hs hflight => ?_, fun hs hidle => ?_, fun hs => ?_⟩
  · exact step_of_agenda_cons hs
  · exact (step_of_agenda_cons hs).trans (State.completion_inFlight hflight)
  · exact (step_of_agenda_cons hs).trans (State.completion_idle hidle)
  · exact step_of_agenda_cons hs

/-- Settles O48: only a completion can stop, and the invariant's clause on the latches excludes it. -/
theorem stepAlwaysAnswers : Obligations.StepAlwaysAnswers := by
  intro s ⟨_, _, hlatch, _, _⟩
  obtain ⟨_, hs⟩ | ⟨tr, rest, _, hs⟩ | ⟨rest, _, hs⟩ | ⟨rest, _, hs⟩ := step_cases s
  · rw [hs]
    exact State.completion_answers hlatch
  · exact ⟨_, hs⟩
  · rw [hs]
    exact State.completion_answers hlatch
  · exact ⟨_, hs⟩

/-- Settles O49: the step gives up at most its one event, and what it then performs keeps W, BASE and the rest. -/
theorem stepKeepsTheParameters : Obligations.StepKeepsTheParameters := by
  intro s t ht
  obtain ⟨hagenda, hs⟩ | ⟨tr, rest, hagenda, hs⟩ | ⟨rest, hagenda, hs⟩ | ⟨rest, hagenda, hs⟩ := step_cases s <;>
    rw [hs] at ht
  · simpa [hagenda] using State.completion_keeps_cfg_agenda ht
  · cases ht
    simp [hagenda]
  · simpa [hagenda] using State.completion_keeps_cfg_agenda ht
  · cases ht
    simp [hagenda]

end Sys2Proof.Machine

/-! # The register window of 10_state.md: what each register reads as, and what a write of it does -/

namespace Sys2Proof.Machine

/-! ### Offsets (10_state.md R22) -/

/-- The offset of a register (10_state.md R22), the other way round from `regAt`. -/
def Reg.offset : Reg → Offset
  | .id     => 0x00#7
  | .ctrl   => 0x08#7
  | .status => 0x10#7
  | .cmd    => 0x18#7
  | .opa    => 0x20#7
  | .opb    => 0x28#7
  | .opm    => 0x30#7
  | .result => 0x38#7
  | .steps  => 0x40#7

@[simp] theorem regAt_offset (r : Reg) : regAt r.offset = some r := by cases r <;> rfl

theorem eq_offset_of_regAt {off : Offset} {r : Reg} (h : regAt off = some r) : off = r.offset := by
  unfold regAt at h
  split_ifs at h <;> cases h <;> assumption

theorem legalAccess_offset (r : Reg) : legalAccess r.offset 8 = true := by cases r <;> rfl

theorem State.readWord_offset (s : State) (r : Reg) : s.readWord r.offset = s.readReg r := by
  simp [State.readWord]

theorem State.writeWord_offset (s : State) (r : Reg) (v : Word) : s.writeWord r.offset v = s.writeReg v r := by
  simp [State.writeWord]

theorem State.writeWord_reserved {s : State} {off : Offset} (v : Word) (h : regAt off = none) :
    s.writeWord off v = s := by
  simp [State.writeWord, h]

theorem State.memWrite_offset (s : State) (r : Reg) (v : Word) :
    s.memWrite r.offset 8 v = (s.writeReg v r).respond (some .okay) := by
  rw [State.memWrite_legal v (legalAccess_offset r), s.writeWord_offset]

/-- The port's response is no register: a read after a write sees what the write left. -/
theorem State.readWord_memWrite_offset (s : State) (r : Reg) (v : Word) :
    (s.memWrite r.offset 8 v).readWord r.offset = (s.writeReg v r).readReg r := by
  rw [s.memWrite_offset, State.readWord_offset]
  cases r <;> rfl

/-- A legal read answers the word there and changes nothing but the port's response (20_memory.md R65, R66). -/
theorem State.memRead_aligned (s : State) {off : Offset} (h : off.toNat % 8 = 0) :
    s.memRead off 8 = { s with response := some (.okayData (s.readWord off)) } :=
  State.memRead_legal (by simp [legalAccess, h])

theorem State.memRead_offset (s : State) (r : Reg) :
    s.memRead r.offset 8 = { s with response := some (.okayData (s.readReg r)) } := by
  rw [s.memRead_aligned (by cases r <;> rfl), s.readWord_offset]

/-! ### The width of a legal configuration (00_scope.md R8) -/

theorem Config.width_bounds {c : Config} (hc : c.wellFormed = true) : 2 ≤ c.width ∧ c.width ≤ 64 := by
  simp only [Config.wellFormed, Config.widthOk, Bool.and_eq_true, decide_eq_true_eq] at hc
  exact hc.1

theorem fitWord_fits_of_wellFormed {c : Config} (hc : c.wellFormed = true) (n : Nat) : Fits c (fitWord c n) :=
  fitWord_fits c n (Config.width_bounds hc).2

theorem fitWord_toNat_of_wellFormed {c : Config} (hc : c.wellFormed = true) (n : Nat) :
    (fitWord c n).toNat = n % 2 ^ c.width :=
  fitWord_toNat c n (Config.width_bounds hc).2

@[simp] theorem fitWord_zero (c : Config) : fitWord c 0 = 0#64 := by simp [fitWord]

/-! ### The words of ID, CTRL and STATUS as numbers -/

/-- A concatenation of fields is the number with the upper field above the lower one's n bits. -/
theorem toNat_append_eq_mul_add {m n : Nat} (x : BitVec m) (y : BitVec n) :
    (x ++ y).toNat = x.toNat * 2 ^ n + y.toNat := by
  rw [BitVec.toNat_append, ← Nat.shiftLeft_add_eq_or_of_lt y.isLt, Nat.shiftLeft_eq]

/-- ID's number (10_state.md R23): W below REV = 1 and OPSUP = 0x003E. -/
theorem idWord_toNat {c : Config} (hc : c.wellFormed = true) : (idWord c).toNat = 0x3E0100 + c.width := by
  have hwidth := Config.width_bounds hc
  simp only [idWord, Config.opsup, Config.revision, toNat_append_eq_mul_add, BitVec.toNat_ofNat]
  omega

/-- Bit 16 + k of ID is bit k of OPSUP (10_state.md R23). -/
theorem idWord_getLsbD_opsup (c : Config) {k : Nat} (hk : k < 16) :
    (idWord c).getLsbD (16 + k) = Config.opsup.getLsbD k := by
  simp only [idWord, BitVec.getLsbD_append]
  rw [if_neg (by omega), if_neg (by omega), if_pos (by omega)]
  congr 1
  omega

/-- OPSUP marks the opcodes that decode to a command (10_state.md R23, 30_encoding.md R83). -/
theorem opsup_getLsbD_eq_decode :
    ∀ k < 16, Config.opsup.getLsbD k = (decode (BitVec.ofNat 64 k)).isSome := by decide

theorem State.ctrlWord_toNat (s : State) : s.ctrlWord.toNat = if s.irqEn then 1 else 0 := by
  cases hirq : s.irqEn <;> simp [State.ctrlWord, hirq]

/-- STATUS's number, from the fields of 10_state.md R26. -/
theorem State.statusWord_toNat (s : State) :
    s.statusWord.toNat =
      s.lastop.toNat * 2 ^ 16 + s.errcode.toNat * 2 ^ 8 +
        (s.ovr.toNat * 2 ^ 3 + s.err.toNat * 2 ^ 2 + s.done.toNat * 2 + s.busy.toNat) := by
  simp only [State.statusWord, toNat_append_eq_mul_add, BitVec.toNat_ofBool, BitVec.toNat_ofNat]
  omega

/-- The four flags are STATUS's lowest bits (10_state.md R26). -/
theorem State.statusWord_flags (s : State) :
    s.statusWord.getLsbD 0 = s.busy ∧ s.statusWord.getLsbD 1 = s.done ∧
      s.statusWord.getLsbD 2 = s.err ∧ s.statusWord.getLsbD 3 = s.ovr := by
  simp only [State.statusWord, BitVec.getLsbD_append]
  simp

/-! ### The statements about one register -/

/-- Settles O29: the fields of ID are digits of its number, and its bitmap is the decoder's. -/
theorem idRegister : Obligations.IdRegister := by
  intro s hcfg
  have hwidth := Config.width_bounds hcfg
  have hread : s.readWord 0x00#7 = idWord s.cfg := s.readWord_offset .id
  have hnum := idWord_toNat hcfg
  rw [hread]
  refine ⟨by omega, by omega, by omega, fun k hk => ?_, by omega, fun h64 => ?_, s.memWrite_offset .id⟩
  · exact (idWord_getLsbD_opsup s.cfg hk).trans (opsup_getLsbD_eq_decode k hk)
  · exact BitVec.eq_of_toNat_eq (by rw [hnum, h64]; rfl)

/-- Settles O30: a CTRL write is a block reset or a write of IRQ_EN, by its bit 1. -/
theorem ctrlRegister : Obligations.CtrlRegister := by
  intro s v
  have hread : s.readWord 0x08#7 = s.ctrlWord := s.readWord_offset .ctrl
  have hwrite : s.memWrite 0x08#7 8 v = (s.writeCtrl v).respond (some .okay) := s.memWrite_offset .ctrl v
  refine ⟨by rw [hread, s.ctrlWord_toNat], ?_⟩
  rw [hwrite, State.writeCtrl]
  split
  · rfl
  · rfl

/-- Settles O31: the fields of STATUS are digits of its number. -/
theorem statusReads : Obligations.StatusReads := by
  intro s
  have hread : s.readWord 0x10#7 = s.statusWord := s.readWord_offset .status
  have hnum := s.statusWord_toNat
  have hovr := s.ovr.toNat_le
  have herr := s.err.toNat_le
  have hdone := s.done.toNat_le
  have hbusy := s.busy.toNat_le
  have hcode := s.errcode.isLt
  have hop := s.lastop.isLt
  obtain ⟨h0, h1, h2, h3⟩ := s.statusWord_flags
  rw [hread]
  exact ⟨h0, h1, h2, h3, by omega, by omega, by omega, by omega, by omega⟩

/-- Settles O32: a flag and the complement of its W1C bit, on each bit's two values. -/
theorem statusWrite : Obligations.StatusWrite := by
  intro s v
  have hwrite : s.memWrite 0x10#7 8 v = (s.clearStatus v).respond (some .okay) := s.memWrite_offset .status v
  have hclear : ∀ flag bit : Bool, (flag && !bit) = if bit then false else flag := by decide
  rw [hwrite, State.clearStatus, hclear, hclear, hclear]
  rfl

/-- Settles O33: each operand register keeps `fitWord` of the data. -/
theorem operandRegisterWrite : Obligations.OperandRegisterWrite := by
  intro s v hcfg
  have hfit := fitWord_toNat_of_wellFormed hcfg v.toNat
  exact ⟨s.memWrite_offset .opa v, s.memWrite_offset .opb v, s.memWrite_offset .opm v,
    (congrArg BitVec.toNat (s.readWord_memWrite_offset .opa v)).trans hfit,
    (congrArg BitVec.toNat (s.readWord_memWrite_offset .opb v)).trans hfit,
    (congrArg BitVec.toNat (s.readWord_memWrite_offset .opm v)).trans hfit⟩

/-- Settles O34: the read of a register, and of any aligned offset. -/
theorem readsReturnTheRegisters : Obligations.ReadsReturnTheRegisters := by
  intro s
  exact ⟨s.memRead_offset .cmd, s.memRead_offset .opa, s.memRead_offset .opb, s.memRead_offset .opm,
    s.memRead_offset .result, s.memRead_offset .steps, fun _ => s.memRead_aligned⟩

/-- Settles O35: RESULT and STEPS are registers whose write leaves the state. -/
theorem resultAndStepsIgnoreWrites : Obligations.ResultAndStepsIgnoreWrites := by
  intro s v
  exact ⟨s.memWrite_offset .result v, s.memWrite_offset .steps v⟩

/-! ### The reset values (10_state.md R43) -/

/-- A machine that has just come up is one whose block a reset leaves as it is. -/
theorem State.blockReset_resetWith (c : Config) : (State.resetWith c).blockReset = State.resetWith c := rfl

theorem State.readReg_blockReset (s : State) (r : Reg) :
    s.blockReset.readReg r = if r = .id then idWord s.cfg else 0#64 := by
  cases r <;> simp [State.readReg, State.ctrlWord, State.statusWord]

theorem State.readWord_blockReset (s : State) (off : Offset) :
    s.blockReset.readWord off = if off = 0x00#7 then idWord s.cfg else 0#64 := by
  cases hreg : regAt off with
  | none =>
    have hoff : off ≠ 0x00#7 := by rintro rfl; cases hreg
    simp [State.readWord, hreg, hoff]
  | some r =>
    obtain rfl := eq_offset_of_regAt hreg
    have hid : r.offset = 0x00#7 ↔ r = .id := by cases r <;> decide
    simp only [State.readWord_offset, State.readReg_blockReset, hid]

/-- Settles O43: every word of a reset block, which is also the block of a machine that has just come up. -/
theorem resetRegisterValues : Obligations.ResetRegisterValues := by
  intro s off
  have hup := (State.resetWith s.cfg).readWord_blockReset off
  rw [State.blockReset_resetWith] at hup
  exact ⟨s.readWord_blockReset off, rfl, rfl, hup, rfl, rfl⟩

end Sys2Proof.Machine

/-! # What a step can do to the block, said once, and what follows: the invariant and the writers of each register -/

namespace Sys2Proof.Machine

/-! ### The port, the host fault record and the agenda are no state of the block -/

/-- s with another response, host fault record and agenda (log entries 3, 8, 9), its block as it was. -/
def State.withPort (s : State) (r : Option Response) (f : Bool) (l : List Event) : State :=
  { s with response := r, hostFault := f, agenda := l }

section WithPort
variable (s : State) (r : Option Response) (f : Bool) (l : List Event)

@[simp] theorem State.withPort_irqEn : (s.withPort r f l).irqEn = s.irqEn := rfl
@[simp] theorem State.withPort_busy : (s.withPort r f l).busy = s.busy := rfl
@[simp] theorem State.withPort_done : (s.withPort r f l).done = s.done := rfl
@[simp] theorem State.withPort_err : (s.withPort r f l).err = s.err := rfl
@[simp] theorem State.withPort_ovr : (s.withPort r f l).ovr = s.ovr := rfl
@[simp] theorem State.withPort_errcode : (s.withPort r f l).errcode = s.errcode := rfl
@[simp] theorem State.withPort_lastop : (s.withPort r f l).lastop = s.lastop := rfl
@[simp] theorem State.withPort_opa : (s.withPort r f l).opa = s.opa := rfl
@[simp] theorem State.withPort_opb : (s.withPort r f l).opb = s.opb := rfl
@[simp] theorem State.withPort_opm : (s.withPort r f l).opm = s.opm := rfl
@[simp] theorem State.withPort_result : (s.withPort r f l).result = s.result := rfl
@[simp] theorem State.withPort_steps : (s.withPort r f l).steps = s.steps := rfl

theorem State.commit_withPort (x : ExecResult) : (s.withPort r f l).commit x = (s.commit x).withPort r f l := by
  cases x <;> rfl

theorem State.issueCommand_withPort (v : Word) :
    (s.withPort r f l).issueCommand v = (s.issueCommand v).withPort r f l := by
  cases hbusy : s.busy with
  | true =>
    rw [State.issueCommand_busy v hbusy, State.issueCommand_busy v (s := s.withPort r f l) hbusy]
    rfl
  | false =>
    cases hv : decode v with
    | none =>
      rw [State.issueCommand_illegal hbusy hv, State.issueCommand_illegal (s := s.withPort r f l) hbusy hv]
      rfl
    | some op =>
      rw [State.issueCommand_legal hbusy hv, State.issueCommand_legal (s := s.withPort r f l) hbusy hv]
      rfl

theorem State.writeCtrl_withPort (v : Word) :
    (s.withPort r f l).writeCtrl v = (s.writeCtrl v).withPort r f l := by
  cases hreset : v[1] <;> simp [State.writeCtrl, hreset] <;> rfl

theorem State.writeReg_withPort (v : Word) (reg : Reg) :
    (s.withPort r f l).writeReg v reg = (s.writeReg v reg).withPort r f l := by
  cases reg with
  | ctrl => exact s.writeCtrl_withPort r f l v
  | cmd => exact s.issueCommand_withPort r f l v
  | _ => rfl

end WithPort

/-! ### The changes a step can make (10_state.md R24 to R37, R41) -/

/-- The engine moves in the next step: its completion is the next event, or none is left (log entry 3). -/
abbrev State.EngineNext (s : State) : Prop := s.agenda = [] ∨ s.agenda.head? = some .completion

/-- The next event is the host's write of v to the word at offset off. -/
abbrev State.WriteNext (s : State) (off : Nat) (v : Word) : Prop :=
  s.agenda.head? = some (.bus (.write (s.cfg.base + off) 8 v))

/-- The next event is a reset (70_reset_and_hazards.md R190). -/
abbrev State.ResetNext (s : State) : Prop := ∃ e, s.agenda.head? = some e ∧ e.isReset s.cfg = true

/-- `BlockStep s u`: in the step from s the block goes to that of u, with the event that is the reason. One
constructor for each way 10_state.md R24 to R37 and R41 give a register or a flag to be written. -/
inductive BlockStep (s : State) : State → Prop where
  /-- A read, a write nothing listens to, an ERROR, an address outside the window, or an idle engine. -/
  | quiet : BlockStep s s
  /-- The completion of the command in flight. -/
  | commit (h : Latch) : s.InFlight h → s.EngineNext → BlockStep s (s.commit (execResult h.op h))
  | reset : s.ResetNext → BlockStep s s.blockReset
  | writeIrqEn (v : Word) : s.WriteNext 0x08 v → BlockStep s { s with irqEn := v[0] }
  | clearStatus (v : Word) : s.WriteNext 0x10 v → BlockStep s (s.clearStatus v)
  | overrun (v : Word) : s.WriteNext 0x18 v → s.busy = true → BlockStep s s.overrun
  | illegal (v : Word) : s.WriteNext 0x18 v → s.busy = false → decode v = none →
      BlockStep s ((s.accept (opField v)).fail .illegalCommand 0)
  | start (v : Word) (op : Instr) : s.WriteNext 0x18 v → s.busy = false → decode v = some op →
      BlockStep s ((s.accept (opField v)).startCommand op)
  | writeOpa (v : Word) : s.WriteNext 0x20 v → BlockStep s { s with opa := fitWord s.cfg v.toNat }
  | writeOpb (v : Word) : s.WriteNext 0x28 v → BlockStep s { s with opb := fitWord s.cfg v.toNat }
  | writeOpm (v : Word) : s.WriteNext 0x30 v → BlockStep s { s with opm := fitWord s.cfg v.toNat }

theorem State.resetNext_of_hardwareReset {s : State} (h : s.agenda.head? = some .hardwareReset) : s.ResetNext :=
  ⟨_, h, rfl⟩

theorem State.resetNext_of_softReset {s : State} {v : Word} (h : s.WriteNext 0x08 v) (hv : v[1] = true) :
    s.ResetNext :=
  ⟨_, h, by simp [Event.isReset, hv]⟩

/-- The two reset sources (70_reset_and_hazards.md R190): the reset input, or a CTRL write with bit 1 = 1. -/
theorem State.resetNext_cases {s : State} (h : s.ResetNext) :
    s.agenda.head? = some .hardwareReset ∨ ∃ v : Word, s.WriteNext 0x08 v ∧ v[1] = true := by
  obtain ⟨e, he, hreset⟩ := h
  unfold Event.isReset at hreset
  split at hreset
  · simp only [Bool.and_eq_true, beq_iff_eq] at hreset
    obtain ⟨⟨rfl, rfl⟩, hv⟩ := hreset
    exact .inr ⟨_, he, hv⟩
  · exact .inl he
  · cases hreset

theorem blockStep_issueCommand {s : State} {v : Word} (h : s.WriteNext 0x18 v) :
    BlockStep s (s.issueCommand v) := by
  cases hbusy : s.busy with
  | true => rw [State.issueCommand_busy v hbusy]; exact .overrun v h hbusy
  | false =>
    cases hv : decode v with
    | none => rw [State.issueCommand_illegal hbusy hv]; exact .illegal v h hbusy hv
    | some op => rw [State.issueCommand_legal hbusy hv]; exact .start v op h hbusy hv

theorem blockStep_writeCtrl {s : State} {v : Word} (h : s.WriteNext 0x08 v) : BlockStep s (s.writeCtrl v) := by
  rw [State.writeCtrl]
  split
  · exact .reset (State.resetNext_of_softReset h ‹_›)
  · exact .writeIrqEn v h

theorem blockStep_writeReg {s : State} {v : Word} (r : Reg) (h : s.WriteNext r.offset.toNat v) :
    BlockStep s (s.writeReg v r) := by
  cases r with
  | id | result | steps => exact .quiet
  | ctrl => exact blockStep_writeCtrl h
  | status => exact .clearStatus v h
  | cmd => exact blockStep_issueCommand h
  | opa => exact .writeOpa v h
  | opb => exact .writeOpb v h
  | opm => exact .writeOpm v h

/-- The block of t is one a step from s can leave: t is such a state but for port, fault record and agenda. -/
def BlockReaches (s t : State) : Prop := ∃ u r f l, BlockStep s u ∧ t = u.withPort r f l

section Reaches
variable {s : State} {r : Option Response} {f : Bool} {l : List Event}

theorem BlockStep.reaches {u : State} (h : BlockStep s u) : BlockReaches s (u.withPort r f l) :=
  ⟨u, r, f, l, h, rfl⟩

/-- A read leaves the block as it is, legal or not. -/
theorem blockReaches_memRead (off : Offset) (size : Nat) :
    BlockReaches s ((s.withPort r f l).memRead off size) := by
  cases hlegal : legalAccess off size with
  | true => rw [State.memRead_legal hlegal]; exact BlockStep.quiet.reaches
  | false => rw [State.memRead_illegal hlegal]; exact BlockStep.quiet.reaches

/-- A write reaches at most the register at its offset. -/
theorem blockReaches_memWrite {off : Offset} {size : Nat} {v : Word}
    (h : s.agenda.head? = some (.bus (.write (s.cfg.base + off.toNat) size v))) :
    BlockReaches s ((s.withPort r f l).memWrite off size v) := by
  cases hlegal : legalAccess off size with
  | false => rw [State.memWrite_illegal v hlegal]; exact BlockStep.quiet.reaches
  | true =>
    obtain rfl : size = 8 := by simp_all [legalAccess]
    rw [State.memWrite_legal v hlegal]
    cases hreg : regAt off with
    | none =>
      rw [State.writeWord_reserved v hreg]
      exact BlockStep.quiet.reaches
    | some reg =>
      obtain rfl := eq_offset_of_regAt hreg
      rw [State.writeWord_offset, State.writeReg_withPort]
      exact (blockStep_writeReg reg h).reaches

/-- An address the block decodes is BASE and its offset (20_memory.md R61). -/
theorem eq_base_add_of_windowOffset {c : Config} {addr : Nat} {off : Offset} (h : windowOffset c addr = some off) :
    addr = c.base + off.toNat := by
  unfold windowOffset at h
  split_ifs at h with hin
  cases h
  rw [BitVec.toNat_ofNat]
  omega

theorem blockReaches_transact {tr : Transaction} (h : s.agenda.head? = some (.bus tr)) :
    BlockReaches s ((s.withPort r f l).transact tr) := by
  cases tr with
  | read addr size =>
    cases hoff : windowOffset (s.withPort r f l).cfg addr with
    | none => rw [State.transact, hoff]; exact BlockStep.quiet.reaches
    | some off => rw [State.transact, hoff]; exact blockReaches_memRead off size
  | write addr size v =>
    cases hoff : windowOffset (s.withPort r f l).cfg addr with
    | none => rw [State.transact, hoff]; exact BlockStep.quiet.reaches
    | some off =>
      obtain rfl : addr = s.cfg.base + off.toNat := eq_base_add_of_windowOffset hoff
      rw [State.transact, hoff]
      exact blockReaches_memWrite h

theorem blockReaches_completion {t : State} (hnext : s.EngineNext)
    (ht : (s.withPort r f l).completion = .next t) : BlockReaches s t := by
  rw [State.completion_eq_completeWith] at ht
  obtain ⟨_, rfl⟩ | ⟨h, hflight, rfl⟩ := completeWith_next ht
  · exact BlockStep.quiet.reaches
  · rw [State.commit_withPort]
    exact (BlockStep.commit (s := s) h hflight hnext).reaches

end Reaches

/-- All a step can do to the block (00_scope.md R19, 10_state.md R41). -/
theorem step_blockReaches {s t : State} (ht : step s = .next t) : BlockReaches s t := by
  obtain ⟨hagenda, hs⟩ | ⟨tr, rest, hagenda, hs⟩ | ⟨rest, hagenda, hs⟩ | ⟨rest, hagenda, hs⟩ := step_cases s <;>
    rw [hs] at ht
  · exact blockReaches_completion (.inl hagenda) ht
  · cases ht
    exact blockReaches_transact (by rw [hagenda]; rfl)
  · exact blockReaches_completion (.inr (by rw [hagenda]; rfl)) ht
  · cases ht
    exact (BlockStep.reset (State.resetNext_of_hardwareReset (by rw [hagenda]; rfl))).reaches

/-! ### The invariant of 10_state.md R44 and R45 -/

theorem decodeOp_eq_some {op : Nibble} {i : Instr} (h : decodeOp op = some i) : op = opcode i := by
  unfold decodeOp at h
  split_ifs at h <;> cases h <;> assumption

/-- A legal word's OP is the opcode of the command it decodes to (30_encoding.md R83). -/
theorem opField_of_decode {v : Word} {i : Instr} (h : decode v = some i) : opField v = opcode i := by
  unfold decode at h
  split_ifs at h
  exact decodeOp_eq_some h

theorem opcode_bounds (i : Instr) : 1 ≤ (opcode i).toNat ∧ (opcode i).toNat ≤ 5 := by cases i <;> decide

theorem CommandError.code_bounds (e : CommandError) : e.code ≠ 0#4 ∧ e.code.toNat ≤ 3 := by cases e <;> decide

/-- The operands of a command in flight are W-bit values, and LASTOP is its opcode. -/
theorem State.Inv.latchOk {s : State} {h : Latch} (hs : s.Inv) (hflight : s.InFlight h) : s.LatchOk h := by
  obtain ⟨_, _, _, _, hlatch⟩ := hs
  rw [hflight.2] at hlatch
  exact of_decide_eq_true hlatch

/-- With BUSY = 0 the invariant is about the registers alone. -/
theorem State.inv_of_idle {s : State} (hcfg : s.cfg.wellFormed = true) (hbusy : s.busy = false)
    (hlatch : s.inflight = none) (herr : s.err = true ↔ s.errcode ≠ 0#4) (hcode : s.errcode.toNat ≤ 3)
    (hwidth : s.WidthOk) : s.Inv := by
  refine ⟨hcfg, ⟨?_, herr, hcode, ?_⟩, ?_, hwidth, ?_⟩ <;> simp [hbusy, hlatch]

theorem State.inv_resetWith {c : Config} (hc : c.wellFormed = true) : (State.resetWith c).Inv := by
  have hzero : Fits c 0#64 := Nat.two_pow_pos _
  exact State.inv_of_idle hc rfl rfl (by simp [State.resetWith]) (by simp [State.resetWith])
    ⟨hzero, hzero, hzero, hzero, hzero⟩

/-- The block a reset leaves is that of a machine that has just come up. -/
theorem State.inv_blockReset {s : State} (hcfg : s.cfg.wellFormed = true) : s.blockReset.Inv :=
  State.inv_resetWith hcfg

/-- An error completion keeps the invariant whatever ERR and ERRCODE were, an accept's in particular. -/
theorem State.inv_fail {s : State} (hcfg : s.cfg.wellFormed = true) (hwidth : s.WidthOk) (e : CommandError)
    (n : Nat) : (s.fail e n).Inv := by
  obtain ⟨ha, hb, hm, hresult, _⟩ := hwidth
  obtain ⟨hcode, hle⟩ := e.code_bounds
  exact State.inv_of_idle hcfg rfl rfl (by simp [hcode]) hle
    ⟨ha, hb, hm, hresult, fitWord_fits_of_wellFormed hcfg n⟩

theorem State.Inv.commit {s : State} (hs : s.Inv) (x : ExecResult) : (s.commit x).Inv := by
  obtain ⟨hcfg, ⟨_, herr, hcode, _⟩, _, hwidth, _⟩ := hs
  cases x with
  | err e n => exact State.inv_fail hcfg hwidth e n
  | ok r n =>
    obtain ⟨ha, hb, hm, _, _⟩ := hwidth
    exact State.inv_of_idle hcfg rfl rfl herr hcode
      ⟨ha, hb, hm, fitWord_fits_of_wellFormed hcfg r, fitWord_fits_of_wellFormed hcfg n⟩

/-- ERR and ERRCODE are cleared together, so R44's clause on them survives a STATUS write. -/
theorem State.Inv.clearStatus {s : State} (hs : s.Inv) (v : Word) : (s.clearStatus v).Inv := by
  obtain ⟨hcfg, ⟨hbusy, herr, hcode, hop⟩, hlatch, hwidth, hlatchOk⟩ := hs
  refine ⟨hcfg, ⟨fun hb => ?_, ?_, ?_, hop⟩, hlatch, hwidth, hlatchOk⟩
  · obtain ⟨hdone, herr0, hcode0⟩ := hbusy hb
    simp [hdone, herr0, hcode0]
  · cases hv : v[2] <;> simp [hv, herr]
  · cases hv : v[2] <;> simp [hv, hcode]

/-- The latch a legal command gets holds copies of W-bit registers, and LASTOP is its opcode. -/
theorem State.Inv.start {s : State} (hs : s.Inv) {v : Word} {op : Instr} (hv : decode v = some op) :
    ((s.accept (opField v)).startCommand op).Inv := by
  obtain ⟨hcfg, _, _, hwidth, _⟩ := hs
  obtain ⟨ha, hb, hm, _, _⟩ := id hwidth
  have hop := opField_of_decode hv
  refine ⟨hcfg, ⟨fun _ => ⟨rfl, rfl, rfl⟩, by simp, by simp, fun _ => ?_⟩, rfl, hwidth,
    decide_eq_true ⟨ha, hb, hm, hop⟩⟩
  rw [State.startCommand_lastop, State.accept_lastop, hop]
  exact opcode_bounds op

theorem BlockStep.inv {s u : State} (hs : s.Inv) (h : BlockStep s u) : u.Inv := by
  obtain ⟨hcfg, hstatus, hlatch, hwidth, hlatchOk⟩ := id hs
  obtain ⟨ha, hb, hm, hresult, hsteps⟩ := id hwidth
  cases h with
  | quiet => exact hs
  | commit h _ _ => exact hs.commit _
  | reset _ => exact State.inv_blockReset hcfg
  | writeIrqEn _ _ => exact hs
  | clearStatus v _ => exact hs.clearStatus v
  | overrun _ _ _ => exact hs
  | illegal v _ _ _ => exact State.inv_fail (s := s.accept (opField v)) hcfg hwidth _ _
  | start v op _ _ hv => exact hs.start hv
  | writeOpa v _ =>
    exact ⟨hcfg, hstatus, hlatch, ⟨fitWord_fits_of_wellFormed hcfg _, hb, hm, hresult, hsteps⟩, hlatchOk⟩
  | writeOpb v _ =>
    exact ⟨hcfg, hstatus, hlatch, ⟨ha, fitWord_fits_of_wellFormed hcfg _, hm, hresult, hsteps⟩, hlatchOk⟩
  | writeOpm v _ =>
    exact ⟨hcfg, hstatus, hlatch, ⟨ha, hb, fitWord_fits_of_wellFormed hcfg _, hresult, hsteps⟩, hlatchOk⟩

/-- Settles O46: a reset block is idle with every register 0. -/
theorem resetHasTheInvariant : Obligations.ResetHasTheInvariant := fun _ => State.inv_resetWith

/-- Settles O47: each change a step can make to the block keeps the invariant, which says nothing about the port, the
fault record and the agenda. -/
theorem stepKeepsTheInvariant : Obligations.StepKeepsTheInvariant := by
  intro s t hs ht
  obtain ⟨u, r, f, l, hu, rfl⟩ := step_blockReaches ht
  have hinv : u.Inv := hu.inv hs
  exact hinv

end Sys2Proof.Machine

/-! # The writers of each register and flag (10_state.md R24 to R37, R41), read off the changes a step can make -/

namespace Sys2Proof.Machine

/-! ### What either commit writes and leaves (40_command_lifecycle.md R106, R107) -/

/-- The step count Exec returns, with or without an error (40_command_lifecycle.md R105). -/
def ExecResult.stepCount : ExecResult → Nat
  | .ok _ n  => n
  | .err _ n => n

section Commit
variable (s : State) (x : ExecResult)

@[simp] theorem State.commit_irqEn : (s.commit x).irqEn = s.irqEn := by cases x <;> rfl
@[simp] theorem State.commit_busy : (s.commit x).busy = false := by cases x <;> rfl
@[simp] theorem State.commit_done : (s.commit x).done = true := by cases x <;> rfl
@[simp] theorem State.commit_ovr : (s.commit x).ovr = s.ovr := by cases x <;> rfl
@[simp] theorem State.commit_lastop : (s.commit x).lastop = s.lastop := by cases x <;> rfl
@[simp] theorem State.commit_opa : (s.commit x).opa = s.opa := by cases x <;> rfl
@[simp] theorem State.commit_opb : (s.commit x).opb = s.opb := by cases x <;> rfl
@[simp] theorem State.commit_opm : (s.commit x).opm = s.opm := by cases x <;> rfl
@[simp] theorem State.commit_steps : (s.commit x).steps = fitWord s.cfg x.stepCount := by cases x <;> rfl

/-- A commit without an error writes RESULT and leaves ERR and ERRCODE; one with an error sets ERR and leaves RESULT. -/
theorem State.commit_result_or_err :
    ((s.commit x).err = s.err ∧ (s.commit x).errcode = s.errcode) ∨
      ((s.commit x).err = true ∧ (s.commit x).result = s.result) := by
  cases x with
  | ok r n => exact .inl ⟨rfl, rfl⟩
  | err e n => exact .inr ⟨rfl, rfl⟩

end Commit

/-- LASTOP = CMD[3:0] (40_command_lifecycle.md R102). -/
theorem opField_eq_ofNat (v : Word) : opField v = BitVec.ofNat 4 v.toNat := by
  simp [opField, BitVec.extractLsb']

/-! ### The statements -/

/-- Settles O50: only a commit and a reset clear BUSY, only the start of a legal command sets it. -/
theorem busyWriters : Obligations.BusyWriters := by
  intro s t ht
  obtain ⟨u, r, f, l, hu, rfl⟩ := step_blockReaches ht
  rw [State.withPort_busy]
  constructor
  · intro hbusy hidle
    cases hu with
    | commit h _ hnext => exact hnext.imp_right fun hhead => ⟨_, hhead, .inl rfl⟩
    | reset hreset =>
      obtain ⟨e, hhead, he⟩ := hreset
      exact .inr ⟨e, hhead, .inr he⟩
    | _ => simp_all
  · intro hidle hbusy
    cases hu with
    | start v op hwrite _ hv => exact ⟨v, hwrite, by simp [hv]⟩
    | _ => simp_all

/-- Settles O51: a commit and an illegal command set DONE; an accept of a legal one, W1C and a reset clear it. -/
theorem doneWriters : Obligations.DoneWriters := by
  intro s t ht
  obtain ⟨u, r, f, l, hu, rfl⟩ := step_blockReaches ht
  rw [State.withPort_done]
  constructor
  · intro hbefore hafter
    cases hu with
    | commit h hflight hnext => exact .inl ⟨hflight.1, hnext⟩
    | illegal v hwrite hidle hv => exact .inr ⟨hidle, v, hwrite, hv⟩
    | _ => simp_all
  · intro hbefore hafter
    cases hu with
    | start v op hwrite hidle hv => exact .inl ⟨hidle, v, hwrite, by simp [hv]⟩
    | clearStatus v hwrite => exact .inr (.inl ⟨v, hwrite, by simpa [hbefore] using hafter⟩)
    | reset hreset => exact .inr (.inr hreset)
    | _ => simp_all

/-- Settles O52: a commit with an error sets ERR, an accept leaves ERRCODE 1 or 0, W1C and a reset clear both. -/
theorem errWriters : Obligations.ErrWriters := by
  intro s t _ ht hchange
  obtain ⟨u, r, f, l, hu, rfl⟩ := step_blockReaches ht
  rw [State.withPort_err, State.withPort_errcode] at *
  cases hu with
  | commit h hflight hnext =>
    obtain ⟨herr, hcode⟩ | ⟨herr, _⟩ := s.commit_result_or_err (execResult h.op h)
    · simp [herr, hcode] at hchange
    · exact .inl ⟨hflight.1, herr, hnext⟩
  | illegal v hwrite hidle hv => exact .inr (.inl ⟨hidle, v, hwrite, by simp [hv, CommandError.code]⟩)
  | start v op hwrite hidle hv => exact .inr (.inl ⟨hidle, v, hwrite, by simp [hv]⟩)
  | clearStatus v hwrite =>
    cases hv : v[2] with
    | false => simp [hv] at hchange
    | true => exact .inr (.inr (.inl ⟨by simp [hv], by simp [hv], v, hwrite, hv⟩))
  | reset hreset => exact .inr (.inr (.inr ⟨rfl, rfl, hreset⟩))
  | _ => simp at hchange

/-- Settles O53: only an overrun sets OVR, only W1C and a reset clear it. -/
theorem ovrWriters : Obligations.OvrWriters := by
  intro s t ht
  obtain ⟨u, r, f, l, hu, rfl⟩ := step_blockReaches ht
  rw [State.withPort_ovr]
  constructor
  · intro hbefore hafter
    cases hu with
    | overrun v hwrite hbusy => exact ⟨hbusy, v, hwrite⟩
    | _ => simp_all
  · intro hbefore hafter
    cases hu with
    | clearStatus v hwrite => exact .inl ⟨v, hwrite, by simpa [hbefore] using hafter⟩
    | reset hreset => exact .inr hreset
    | _ => simp_all

/-- Settles O54: only an accept, of a legal or an illegal word, and a reset write LASTOP. -/
theorem lastopWriters : Obligations.LastopWriters := by
  intro s t ht hchange
  obtain ⟨u, r, f, l, hu, rfl⟩ := step_blockReaches ht
  rw [State.withPort_lastop] at *
  cases hu with
  | illegal v hwrite hidle _ => exact .inl ⟨hidle, v, hwrite, opField_eq_ofNat v⟩
  | start v op hwrite hidle _ => exact .inl ⟨hidle, v, hwrite, opField_eq_ofNat v⟩
  | reset hreset => exact .inr ⟨rfl, hreset⟩
  | _ => simp at hchange

/-- Settles O55: a commit that writes RESULT leaves ERR, which R44 has at 0 while BUSY = 1. -/
theorem resultAndStepsWriters : Obligations.ResultAndStepsWriters := by
  intro s t ⟨_, ⟨hstatus, _⟩, _⟩ ht
  obtain ⟨u, r, f, l, hu, rfl⟩ := step_blockReaches ht
  rw [State.withPort_result, State.withPort_steps, State.withPort_err]
  constructor
  · intro hchange
    cases hu with
    | commit h hflight hnext =>
      obtain ⟨_, herr0, _⟩ := hstatus hflight.1
      obtain ⟨herr, _⟩ | ⟨_, hresult⟩ := s.commit_result_or_err (execResult h.op h)
      · exact .inl ⟨hflight.1, herr.trans herr0, hnext⟩
      · exact absurd hresult hchange
    | reset hreset => exact .inr hreset
    | _ => simp at hchange
  · intro hchange
    cases hu with
    | commit h hflight hnext => exact .inl ⟨hflight.1, hnext⟩
    | illegal v hwrite hidle hv => exact .inr (.inl ⟨hidle, by simp, v, hwrite, hv⟩)
    | reset hreset => exact .inr (.inr hreset)
    | _ => simp at hchange

/-- Settles O56: each operand register has its own write and the reset; IRQ_EN has the CTRL write, which is also what a
software reset is. -/
theorem hostRegistersWriters : Obligations.HostRegistersWriters := by
  intro s t ht
  obtain ⟨u, r, f, l, hu, rfl⟩ := step_blockReaches ht
  rw [State.withPort_opa, State.withPort_opb, State.withPort_opm, State.withPort_irqEn]
  refine ⟨fun hchange => ?_, fun hchange => ?_, fun hchange => ?_, fun hchange => ?_⟩
  · cases hu with
    | writeOpa v hwrite => exact .inl ⟨v, hwrite⟩
    | reset hreset => exact .inr hreset
    | _ => simp at hchange
  · cases hu with
    | writeOpb v hwrite => exact .inl ⟨v, hwrite⟩
    | reset hreset => exact .inr hreset
    | _ => simp at hchange
  · cases hu with
    | writeOpm v hwrite => exact .inl ⟨v, hwrite⟩
    | reset hreset => exact .inr hreset
    | _ => simp at hchange
  · cases hu with
    | writeIrqEn v hwrite => exact .inl ⟨v, hwrite⟩
    | reset hreset =>
      obtain hhard | ⟨v, hwrite, _⟩ := State.resetNext_cases hreset
      · exact .inr hhard
      · exact .inl ⟨v, hwrite⟩
    | _ => simp at hchange

end Sys2Proof.Machine

/-! # The trip counts of the loops (41_gcd.md R122, 42_modinv.md R134, 43_modpow.md R143) and the bound on STEPS -/

namespace Sys2Proof.Machine

/-! ### The count of a loop -/

theorem iterate_count {α : Type} {body : α → α} {count : α → Nat} (hcount : ∀ x, count (body x) = count x + 1)
    (k : Nat) (x : α) : count (body^[k] x) = count x + k := by
  induction k with
  | zero => rfl
  | succ k ih => rw [Function.iterate_succ_apply', hcount, ih]; omega

/-- A loop whose guard fails after k trips makes at most k, so its count register rises by at most k. -/
theorem whileLoop_count_le {α : Type} {guard : α → Bool} {body : α → α} {k : Nat} {x : α}
    (hend : guard (body^[k] x) = false) {count : α → Nat} (hcount : ∀ x, count (body x) = count x + 1) (fuel : Nat) :
    count (whileLoop guard body fuel x) ≤ count x + k := by
  obtain ⟨trips, _, hloop, hrun, _⟩ := whileLoop_spec guard body fuel x
  have htrips : trips ≤ k := by
    by_contra hlt
    simp [hrun k (by omega)] at hend
  rw [hloop, iterate_count hcount]
  omega

/-! ### GCD and MODINV: two trips of the Euclidean algorithm at least halve b -/

/-- The remainder of b by a smaller positive r is less than half of b, since the quotient is at least 1. -/
theorem two_mul_mod_lt {b r : Nat} (hr : 0 < r) (hlt : r < b) : 2 * (b % r) < b := by
  have hmod := Nat.mod_lt b hr
  have hquot : 0 < b / r := Nat.div_pos hlt.le hr
  have hdiv := Nat.div_add_mod b r
  have hle : r ≤ r * (b / r) := Nat.le_mul_of_pos_right r hquot
  omega

/-- From a b of at most j bits, at most 2 * j trips lead to b = 0: two trips take b to a number of j - 1 bits. -/
theorem exists_gcdTrip_b_eq_zero (j : Nat) (w : GcdRegs) (hb : w.b < 2 ^ j) :
    ∃ k ≤ 2 * j, (gcdTrip^[k] w).b = 0 := by
  induction j generalizing w with
  | zero => exact ⟨0, le_refl 0, by simpa using hb⟩
  | succ j ih =>
    by_cases hb0 : w.b = 0
    · exact ⟨0, by omega, hb0⟩
    have hlt : w.a % w.b < w.b := Nat.mod_lt _ (by omega)
    by_cases hr0 : w.a % w.b = 0
    · exact ⟨1, by omega, hr0⟩
    have hhalf : 2 * (w.b % (w.a % w.b)) < w.b := two_mul_mod_lt (by omega) hlt
    obtain ⟨k, hk, hend⟩ := ih (gcdTrip (gcdTrip w)) (by
      have hgoal : w.b % (w.a % w.b) < 2 ^ j := by rw [pow_succ] at hb; omega
      exact hgoal)
    exact ⟨k + 2, by omega, hend⟩

/-- R and NEWR of MODINV's loop are a and b of GCD's (42_modinv.md R130, 41_gcd.md R120). -/
def InvRegs.gcdRegs (w : InvRegs) : GcdRegs := { a := w.r, b := w.newr, cnt := w.cnt }

/-- R - q * NEWR is R mod NEWR, so a trip of MODINV's loop is a trip of GCD's on those registers. -/
theorem gcdRegs_semiconj_invTrip : Function.Semiconj InvRegs.gcdRegs invTrip gcdTrip := by
  intro w
  have hmod : w.r - w.r / w.newr * w.newr = w.r % w.newr := by
    have hdiv := Nat.div_add_mod' w.r w.newr
    omega
  simp [InvRegs.gcdRegs, invTrip, gcdTrip, hmod]

theorem iterate_invTrip_newr (k : Nat) (w : InvRegs) :
    (invTrip^[k] w).newr = (gcdTrip^[k] w.gcdRegs).b :=
  congrArg GcdRegs.b ((gcdRegs_semiconj_invTrip.iterate_right k).eq w)

/-! ### MODPOW: every trip halves EXP -/

theorem iterate_powTrip_exp (m k : Nat) (w : PowRegs) : ((powTrip m)^[k] w).exp = w.exp / 2 ^ k := by
  induction k with
  | zero => simp
  | succ k ih =>
    rw [Function.iterate_succ_apply', pow_succ, ← Nat.div_div_eq_div_mul, ← ih]
    rfl

/-! ### The step counts of the five commands -/

theorem gcdResult_stepCount_le (a : Nat) {b W : Nat} (hb : b < 2 ^ W) : (gcdResult a b).stepCount ≤ 2 * W := by
  obtain ⟨k, hk, hend⟩ := exists_gcdTrip_b_eq_zero W (gcdStart a b) hb
  have hstop : gcdGuard (gcdTrip^[k] (gcdStart a b)) = false := by simp [gcdGuard, hend]
  have hcount := whileLoop_count_le hstop (count := GcdRegs.cnt) (fun _ => rfl) tripBudget
  exact hcount.trans (by simpa [gcdStart] using hk)

theorem modinvResult_stepCount_le {a W : Nat} (n : Nat) (ha : a < 2 ^ W) :
    (modinvResult a n).stepCount ≤ 2 * W := by
  obtain ⟨k, hk, hend⟩ := exists_gcdTrip_b_eq_zero W (invStart a n).gcdRegs ha
  rw [← iterate_invTrip_newr] at hend
  have hstop : invGuard (invTrip^[k] (invStart a n)) = false := by simp [invGuard, hend]
  have hcount := whileLoop_count_le hstop (count := InvRegs.cnt) (fun _ => rfl) tripBudget
  have hloop : (whileLoop invGuard invTrip tripBudget (invStart a n)).cnt ≤ 2 * W :=
    hcount.trans (by simpa [invStart] using hk)
  unfold modinvResult
  split
  · exact Nat.zero_le _
  · dsimp only
    split
    · exact hloop
    · exact hloop

theorem modpowResult_stepCount_le (base m : Nat) {e W : Nat} (he : e < 2 ^ W) :
    (modpowResult base e m).stepCount ≤ W := by
  have hend : ((powTrip m)^[W] (powStart base e)).exp = 0 := by
    rw [iterate_powTrip_exp]
    exact Nat.div_eq_of_lt he
  have hstop : powGuard ((powTrip m)^[W] (powStart base e)) = false := by simp [powGuard, hend]
  have hcount := whileLoop_count_le hstop (count := PowRegs.cnt) (fun _ => rfl) tripBudget
  unfold modpowResult
  split
  · exact Nat.zero_le _
  · split
    · exact Nat.zero_le _
    · exact hcount.trans (by simp [powStart])

theorem modaddResult_stepCount_le (a b m : Nat) : (modaddResult a b m).stepCount ≤ 1 := by
  unfold modaddResult
  split <;> simp [ExecResult.stepCount]

theorem modmulResult_stepCount_le (a b m : Nat) : (modmulResult a b m).stepCount ≤ 1 := by
  unfold modmulResult
  split <;> simp [ExecResult.stepCount]

/-- On W-bit operands no command counts more than 2 * W steps (10_state.md R37). -/
theorem execResult_stepCount_le (i : Instr) {h : Latch} {W : Nat} (hW : 1 ≤ W) (ha : h.a.toNat < 2 ^ W)
    (hb : h.b.toNat < 2 ^ W) : (execResult i h).stepCount ≤ 2 * W := by
  cases i with
  | modadd => exact (modaddResult_stepCount_le _ _ _).trans (by omega)
  | modmul => exact (modmulResult_stepCount_le _ _ _).trans (by omega)
  | modpow => exact (modpowResult_stepCount_le _ _ hb).trans (by omega)
  | gcd => exact gcdResult_stepCount_le _ hb
  | modinv => exact modinvResult_stepCount_le _ ha

/-- Settles O17: STEPS holds at most the count Exec returns, which the operands' width bounds. -/
theorem stepCountBound : Obligations.StepCountBound := by
  intro i s h hs hflight
  obtain ⟨ha, hb, _, _⟩ := hs.latchOk hflight
  have hwidth := Config.width_bounds hs.1
  refine ⟨s.commit (execResult i h), by rw [exec_eq_completeWith, completeWith_inFlight _ hflight], ?_⟩
  rw [State.commit_steps, fitWord_toNat_of_wellFormed hs.1]
  exact (Nat.mod_le _ _).trans (execResult_stepCount_le i (by omega) ha hb)

end Sys2Proof.Machine

/-! # The bus of 20_memory.md: what every run keeps, the byte lanes, legal and illegal accesses -/

namespace Sys2Proof.Machine

/-! ### Runs -/

/-- A run of n + 1 steps that answers has a first step that answers, and n steps from there. -/
theorem exists_step_of_run_succ {n : Nat} {s t : State} (h : Host.Core.run core (n + 1) s = .next t) :
    ∃ u, step s = .next u ∧ Host.Core.run core n u = .next t := by
  cases hu : step s with
  | next u => exact ⟨u, rfl, (run_succ hu).symm.trans h⟩
  | fault _ | refused _ =>
    have hstep : core.step s = _ := hu
    simp [Host.Core.run, hstep] at h

/-- The induction of every statement over runs: with P n for "n steps to go", a predicate that each step keeps while it
counts down holds at the run's end. -/
theorem run_induction {P : Nat → State → Prop} (hstep : ∀ n s t, P (n + 1) s → step s = .next t → P n t) {n : Nat}
    {s t : State} (hs : P n s) (ht : Host.Core.run core n s = .next t) : P 0 t := by
  induction n generalizing s with
  | zero =>
    cases (run_zero s).symm.trans ht
    exact hs
  | succ n ih =>
    obtain ⟨u, hu, hrun⟩ := exists_step_of_run_succ ht
    exact ih (hstep n s u hs hu) hrun

/-! ### Read after done (20_memory.md R68) -/

/-- DONE = 1 excludes BUSY = 1 (10_state.md R44). -/
theorem State.Inv.idle_of_done {s : State} (hs : s.Inv) (hdone : s.done = true) : s.busy = false := by
  obtain ⟨_, ⟨hstatus, _⟩, _⟩ := hs
  cases hbusy : s.busy with
  | false => rfl
  | true => simp [(hstatus hbusy).1] at hdone

/-- The block is idle with these words in RESULT and STEPS, and the n events to come hold no CMD write and no reset. -/
def HoldsResult (result steps : Word) (n : Nat) (s : State) : Prop :=
  s.busy = false ∧ s.result = result ∧ s.steps = steps ∧
    ∀ e ∈ s.agenda.take n, e.isIssue s.cfg = false ∧ e.isReset s.cfg = false

/-- An idle block changes RESULT and STEPS for a CMD write and a reset only, and only a CMD write makes it busy: a
completion needs a command in flight (10_state.md R36, R37). -/
theorem BlockStep.idle_keeps_result_steps {s u : State} (h : BlockStep s u) (hidle : s.busy = false)
    (hhead : ∀ e, s.agenda.head? = some e → e.isIssue s.cfg = false ∧ e.isReset s.cfg = false) :
    u.busy = false ∧ u.result = s.result ∧ u.steps = s.steps := by
  have hissue : ∀ v, ¬ s.WriteNext 0x18 v := by
    intro v hwrite
    simpa [Event.isIssue] using (hhead _ hwrite).1
  cases h with
  | commit h hflight _ =>
    obtain ⟨hbusy, _⟩ := hflight
    simp [hidle] at hbusy
  | reset hreset =>
    obtain ⟨e, he, hr⟩ := hreset
    simp [(hhead e he).2] at hr
  | illegal v hwrite _ _ => exact absurd hwrite (hissue v)
  | start v op hwrite _ _ => exact absurd hwrite (hissue v)
  | _ => exact ⟨hidle, rfl, rfl⟩

theorem step_holdsResult {result steps : Word} {n : Nat} {s t : State} (hs : HoldsResult result steps (n + 1) s)
    (ht : step s = .next t) : HoldsResult result steps n t := by
  obtain ⟨hidle, hresult, hsteps, hquiet⟩ := hs
  obtain ⟨hcfg, hagenda⟩ := stepKeepsTheParameters s t ht
  obtain ⟨u, r, f, l, hu, rfl⟩ := step_blockReaches ht
  have hhead : ∀ e, s.agenda.head? = some e → e.isIssue s.cfg = false ∧ e.isReset s.cfg = false := by
    intro e he
    obtain ⟨rest, hcons⟩ := List.head?_eq_some_iff.mp he
    exact hquiet e (by simp [hcons])
  obtain ⟨hbusy, hres, hst⟩ := hu.idle_keeps_result_steps hidle hhead
  refine ⟨hbusy, hres.trans hresult, hst.trans hsteps, fun e he => ?_⟩
  have hmem : e ∈ (s.agenda.take (n + 1)).tail := by rw [List.tail_take_eq_take_tail]; exact hagenda ▸ he
  exact hcfg ▸ hquiet e (List.mem_of_mem_tail hmem)

/-- Settles O57: DONE = 1 has the block idle (R44), and an idle block keeps RESULT and STEPS along the run. -/
theorem readAfterDone : Obligations.ReadAfterDone := by
  intro n s t hs hdone hquiet hrun
  have hstart : HoldsResult s.result s.steps n s := ⟨hs.idle_of_done hdone, rfl, rfl, hquiet⟩
  obtain ⟨_, hresult, hsteps, _⟩ := run_induction (fun _ _ _ => step_holdsResult) hstart hrun
  exact ⟨hresult, hsteps⟩

/-! ### Byte lanes (20_memory.md R63) -/

/-- Lane k is the word's k-th digit to the base 256. -/
theorem byteLane_toNat (v : Word) (k : Nat) : (byteLane v k).toNat = v.toNat / 256 ^ k % 256 := by
  have hpow : (256 : Nat) ^ k = 2 ^ (8 * k) := (pow_mul 2 8 k).symm
  simp [byteLane, BitVec.extractLsb'_toNat, Nat.shiftRight_eq_div_pow, hpow]

/-- A byte after the others is the most significant one. -/
theorem bytesToNat_append_singleton (bs : List Byte) (b : Byte) :
    bytesToNat (bs ++ [b]) = bytesToNat bs + 256 ^ bs.length * b.toNat := by
  induction bs with
  | nil => simp [bytesToNat]
  | cons x xs ih =>
    simp only [List.cons_append, bytesToNat, ih, List.length_cons]
    ring

/-- The first n lanes are the word's n lowest digits. -/
theorem bytesToNat_lanes (v : Word) (n : Nat) :
    bytesToNat ((List.range n).map (byteLane v)) = v.toNat % 256 ^ n := by
  induction n with
  | zero => simp [bytesToNat, Nat.mod_one]
  | succ n ih =>
    rw [List.range_succ, List.map_append, List.map_singleton, bytesToNat_append_singleton, ih, byteLane_toNat,
      List.length_map, List.length_range, ← Nat.mod_mul, pow_succ]

theorem bytesToNat_wordBytes (v : Word) : bytesToNat (wordBytes v) = v.toNat :=
  (bytesToNat_lanes v 8).trans (Nat.mod_eq_of_lt v.isLt)

theorem wordBytes_getElem? (v : Word) {k : Nat} (hk : k < 8) : (wordBytes v)[k]? = some (byteLane v k) := by
  simp [wordBytes, hk]

/-- Settles O4: a lane is a field of 8 bits, and the lanes are the word's digits to the base 256. -/
theorem byteLanesLittleEndian : Obligations.ByteLanesLittleEndian := by
  intro v
  refine ⟨fun k i _ hi => ?_, by simp [wordBytes], fun k => wordBytes_getElem? v, bytesToNat_wordBytes v⟩
  simp [byteLane, hi]

/-! ### Legal and illegal accesses (20_memory.md R62, R64) -/

theorem legalAccess_eq_true_iff {off : Offset} {size : Nat} :
    legalAccess off size = true ↔ size = 8 ∧ off.toNat % 8 = 0 := by
  simp [legalAccess]

theorem legalAccess_eq_false_iff {off : Offset} {size : Nat} :
    legalAccess off size = false ↔ size ≠ 8 ∨ off.toNat % 8 ≠ 0 := by
  rw [← Bool.not_eq_true, legalAccess_eq_true_iff]
  tauto

/-- No register stands above STEPS (10_state.md R22). -/
theorem regAt_eq_none_of_le {off : Offset} (h : 0x48 ≤ off.toNat) : regAt off = none := by
  cases hreg : regAt off with
  | none => rfl
  | some r =>
    have hlast : r.offset.toNat ≤ 0x40 := by cases r <;> decide
    rw [eq_offset_of_regAt hreg] at h
    omega

theorem State.readWord_reserved {s : State} {off : Offset} (h : regAt off = none) : s.readWord off = 0#64 := by
  simp [State.readWord, h]

/-- Settles O36: from 0x48 up there is no register to read or to write. -/
theorem reservedWords : Obligations.ReservedWords := by
  intro s off v haligned hoff
  have hreg := regAt_eq_none_of_le hoff
  constructor
  · rw [s.memRead_aligned haligned, State.readWord_reserved hreg]
  · rw [State.memWrite_legal v (legalAccess_eq_true_iff.mpr ⟨rfl, haligned⟩), State.writeWord_reserved v hreg]
    rfl

/-! ### Who records a host fault (60_exceptions.md R167) -/

@[simp] theorem State.commit_hostFault (s : State) (x : ExecResult) : (s.commit x).hostFault = s.hostFault := by
  cases x <;> rfl

/-- A register write is of the block alone: it commutes with a change of the fault record. -/
@[simp] theorem State.writeReg_hostFault (s : State) (v : Word) (r : Reg) :
    (s.writeReg v r).hostFault = s.hostFault := by
  have hport : s.writeReg v r = (s.writeReg v r).withPort s.response s.hostFault s.agenda :=
    s.writeReg_withPort s.response s.hostFault s.agenda v r
  rw [hport, State.withPort]

@[simp] theorem State.writeWord_hostFault (s : State) (off : Offset) (v : Word) :
    (s.writeWord off v).hostFault = s.hostFault := by
  cases hreg : regAt off <;> simp [State.writeWord, hreg]

theorem State.completion_hostFault {s t : State} (ht : s.completion = .next t) : t.hostFault = s.hostFault := by
  rw [State.completion_eq_completeWith] at ht
  obtain ⟨_, rfl⟩ | ⟨h, _, rfl⟩ := completeWith_next ht
  · rfl
  · exact s.commit_hostFault _

theorem State.memRead_hostFault_of_legal {s : State} {off : Offset} {size : Nat}
    (h : legalAccess off size = true) : (s.memRead off size).hostFault = s.hostFault := by
  rw [State.memRead_legal h, State.respond_hostFault]

theorem State.memWrite_hostFault_of_legal {s : State} {off : Offset} {size : Nat} (v : Word)
    (h : legalAccess off size = true) : (s.memWrite off size v).hostFault = s.hostFault := by
  rw [State.memWrite_legal v h, State.respond_hostFault, State.writeWord_hostFault]

/-- Settles O37: the port's test of size and alignment decides between the access and the bus error. -/
theorem illegalAccessChangesNothing : Obligations.IllegalAccessChangesNothing := by
  intro s off size v
  constructor
  · intro h
    have hillegal := legalAccess_eq_false_iff.mpr h
    exact ⟨State.memRead_illegal hillegal, State.memWrite_illegal v hillegal⟩
  · intro hsize haligned
    have hlegal := legalAccess_eq_true_iff.mpr ⟨hsize, haligned⟩
    refine ⟨⟨s.readWord off, ?_⟩, ?_, State.memRead_hostFault_of_legal hlegal,
      State.memWrite_hostFault_of_legal v hlegal⟩
    · rw [State.memRead_legal hlegal, State.respond_response]
    · rw [State.memWrite_legal v hlegal, State.respond_response]

/-! ### The window (20_memory.md R61) -/

theorem windowOffset_eq_none {c : Config} {addr : Nat} (h : addr < c.base ∨ c.base + 128 ≤ addr) :
    windowOffset c addr = none := by
  rw [windowOffset, if_neg (by omega)]

theorem State.transact_outside {s : State} {tr : Transaction} (h : windowOffset s.cfg tr.addr = none) :
    s.transact tr = s := by
  cases tr with
  | read | write => simp only [Transaction.addr] at h; simp [State.transact, h]

/-- Settles O38: inside the window the offset is the address less BASE, outside there is none. -/
theorem windowDecodesItsAddresses : Obligations.WindowDecodesItsAddresses := by
  intro s size v
  refine ⟨fun off => ?_, fun addr haddr => ?_⟩
  · simp [State.transact, windowOffset_base]
  · have hnone := windowOffset_eq_none haddr
    exact ⟨State.transact_outside hnone, State.transact_outside hnone⟩

/-! ### A legal host has no bus error (60_exceptions.md R167) -/

/-- Inside the window a legal transaction is one the port finds legal. -/
theorem legalAccess_of_isLegal {c : Config} {tr : Transaction} {off : Offset} (h : tr.isLegal c = true)
    (hoff : windowOffset c tr.addr = some off) : legalAccess off tr.size = true := by
  have hlt := off.isLt
  have haddr := eq_base_add_of_windowOffset hoff
  simp only [Transaction.isLegal, haddr, Bool.or_eq_true, Bool.and_eq_true, beq_iff_eq, decide_eq_true_eq] at h
  rw [legalAccess_eq_true_iff]
  omega

theorem State.transact_hostFault_of_isLegal {s : State} {tr : Transaction} (h : tr.isLegal s.cfg = true) :
    (s.transact tr).hostFault = s.hostFault := by
  cases hoff : windowOffset s.cfg tr.addr with
  | none => rw [State.transact_outside hoff]
  | some off =>
    have hlegal := legalAccess_of_isLegal h hoff
    cases tr with
    | read addr size =>
      simp only [Transaction.addr] at hoff
      rw [State.transact, hoff]
      exact State.memRead_hostFault_of_legal hlegal
    | write addr size v =>
      simp only [Transaction.addr] at hoff
      rw [State.transact, hoff]
      exact State.memWrite_hostFault_of_legal v hlegal

/-- No bus error so far, and none to come: every transaction of the agenda is legal or outside the window. -/
def LegalHost (s : State) : Prop :=
  s.BusErrorFree ∧ ∀ tr, .bus tr ∈ s.agenda → tr.isLegal s.cfg = true

theorem step_busErrorFree {s t : State} (hs : LegalHost s) (ht : step s = .next t) : t.BusErrorFree := by
  obtain ⟨hfree, hlegal⟩ := hs
  obtain ⟨_, hstep⟩ | ⟨tr, rest, hagenda, hstep⟩ | ⟨rest, _, hstep⟩ | ⟨rest, _, hstep⟩ := step_cases s <;>
    rw [hstep] at ht
  · exact (State.completion_hostFault ht).trans hfree
  · cases ht
    have htr : tr.isLegal s.cfg = true := hlegal tr (by simp [hagenda])
    exact (State.transact_hostFault_of_isLegal (s := (s.respond none).schedule rest) htr).trans hfree
  · exact (State.completion_hostFault ht).trans hfree
  · cases ht
    exact hfree

theorem step_legalHost {s t : State} (hs : LegalHost s) (ht : step s = .next t) : LegalHost t := by
  obtain ⟨hcfg, hagenda⟩ := stepKeepsTheParameters s t ht
  refine ⟨step_busErrorFree hs ht, fun tr htr => ?_⟩
  exact hcfg ▸ hs.2 tr (List.mem_of_mem_tail (hagenda ▸ htr))

/-- Settles O40: a step takes one event of a legal host and leaves the rest. -/
theorem legalHostsCauseNoBusError : Obligations.LegalHostsCauseNoBusError := by
  intro n s t hfree hlegal hrun
  exact (run_induction (P := fun _ => LegalHost) (fun _ _ _ => step_legalHost) ⟨hfree, hlegal⟩ hrun).1

end Sys2Proof.Machine

/-! # The command encoding of 30_encoding.md: decode inverts encode on words and on byte strings -/

namespace Sys2Proof.Machine

/-! ### Command words (30_encoding.md R81, R83, R85) -/

/-- RSVD and OP together are the whole word (30_encoding.md R81). -/
theorem rsvdField_append_opField (v : Word) : rsvdField v ++ opField v = v := by
  apply BitVec.eq_of_toNat_eq
  rw [toNat_append_eq_mul_add, rsvdField, opField, BitVec.extractLsb'_toNat, BitVec.extractLsb'_toNat]
  omega

@[simp] theorem opField_encode (i : Instr) : opField (encode i) = opcode i := by cases i <;> decide

@[simp] theorem rsvdField_encode (i : Instr) : rsvdField (encode i) = 0#60 := by cases i <;> decide

@[simp] theorem decodeOp_opcode (i : Instr) : decodeOp (opcode i) = some i := by cases i <;> rfl

@[simp] theorem decode_encode (i : Instr) : decode (encode i) = some i := by simp [decode]

theorem rsvdField_of_decode {v : Word} {i : Instr} (h : decode v = some i) : rsvdField v = 0#60 := by
  by_contra hrsvd
  simp [decode, hrsvd] at h

/-- A word is a command exactly when it is that command's word (30_encoding.md R85). -/
theorem decode_eq_some_iff {v : Word} {i : Instr} : decode v = some i ↔ v = encode i := by
  constructor
  · intro h
    rw [← rsvdField_append_opField v, rsvdField_of_decode h, opField_of_decode h, encode]
  · rintro rfl
    exact decode_encode i

/-- The number of a command's word is its opcode (30_encoding.md R83). -/
theorem decode_eq_some_iff_toNat {v : Word} {i : Instr} : decode v = some i ↔ v.toNat = (opcode i).toNat := by
  have hencode : (encode i).toNat = (opcode i).toNat := by
    rw [encode, toNat_append_eq_mul_add, BitVec.toNat_ofNat, Nat.zero_mod, zero_mul, zero_add]
  rw [decode_eq_some_iff, ← BitVec.toNat_inj, hencode]

/-- The opcodes are the numbers 1 to 5 and no others (30_encoding.md R83, R84). -/
theorem exists_opcode_toNat_iff {n : Nat} : (∃ i, n = (opcode i).toNat) ↔ 1 ≤ n ∧ n ≤ 5 := by
  constructor
  · rintro ⟨i, rfl⟩
    exact opcode_bounds i
  · rintro ⟨hlow, hhigh⟩
    interval_cases n
    exacts [⟨.modadd, rfl⟩, ⟨.modmul, rfl⟩, ⟨.modpow, rfl⟩, ⟨.gcd, rfl⟩, ⟨.modinv, rfl⟩]

/-- The illegal words are the numbers outside 1 to 5 (30_encoding.md R84, R85). -/
theorem decode_eq_none_iff_toNat {v : Word} : decode v = none ↔ ¬ (1 ≤ v.toNat ∧ v.toNat ≤ 5) := by
  rw [← exists_opcode_toNat_iff, Option.eq_none_iff_forall_ne_some]
  simp [decode_eq_some_iff_toNat]

/-- Settles O1: each legal word is its opcode's number, and each illegal one lies outside 1 to 5. -/
theorem tableWordsDecode : Obligations.TableWordsDecode := by
  refine ⟨?_, ?_, ?_, ?_, ?_, ?_, ?_, ?_, ?_, ?_⟩
  iterate 5 exact decode_eq_some_iff_toNat.mpr rfl
  iterate 5 exact decode_eq_none_iff_toNat.mpr (by decide)

/-- Settles O2: a legal word's number is its opcode, and the numbers outside 1 to 5 are those with a quotient by 16 that
is not 0, or a remainder that is 0 or at least 6. -/
theorem decoderIsTheOpcodeMap : Obligations.DecoderIsTheOpcodeMap := by
  intro v
  have hillegal : ¬ (1 ≤ v.toNat ∧ v.toNat ≤ 5) ↔ v.toNat / 16 ≠ 0 ∨ v.toNat % 16 = 0 ∨ 6 ≤ v.toNat % 16 := by omega
  exact ⟨decode_eq_some_iff_toNat, decode_eq_some_iff_toNat, decode_eq_some_iff_toNat, decode_eq_some_iff_toNat,
    decode_eq_some_iff_toNat, decode_eq_none_iff_toNat.trans hillegal⟩

/-! ### Command bytes (30_encoding.md R80, 20_memory.md R63) -/

/-- A byte string's number is the one whose digits to the base 256 are the bytes. -/
theorem bytesToNat_eq_ofDigits (bs : List Byte) : bytesToNat bs = Nat.ofDigits 256 (bs.map BitVec.toNat) := by
  induction bs with
  | nil => rfl
  | cons b bs ih => simp [bytesToNat, Nat.ofDigits_cons, ih]

theorem lt_of_mem_map_toNat {bs : List Byte} {d : Nat} (hd : d ∈ bs.map BitVec.toNat) : d < 256 := by
  obtain ⟨b, _, rfl⟩ := List.mem_map.mp hd
  exact b.isLt

theorem bytesToNat_lt (bs : List Byte) : bytesToNat bs < 256 ^ bs.length := by
  rw [bytesToNat_eq_ofDigits, ← List.length_map (as := bs) BitVec.toNat]
  exact Nat.ofDigits_lt_base_pow_length (by decide) fun _ => lt_of_mem_map_toNat

/-- Byte strings of one length with one number are the same string. -/
theorem bytesToNat_inj_of_length_eq {bs cs : List Byte} (hlen : bs.length = cs.length)
    (h : bytesToNat bs = bytesToNat cs) : bs = cs := by
  rw [bytesToNat_eq_ofDigits, bytesToNat_eq_ofDigits] at h
  have hdigits : bs.map BitVec.toNat = cs.map BitVec.toNat :=
    Nat.ofDigits_inj_of_len_eq (by decide) (by simpa using hlen) (fun _ => lt_of_mem_map_toNat)
      (fun _ => lt_of_mem_map_toNat) h
  exact List.map_injective_iff.mpr (fun _ _ => BitVec.eq_of_toNat_eq) hdigits

@[simp] theorem wordBytes_length (v : Word) : (wordBytes v).length = 8 := by simp [wordBytes]

/-- The eight bytes of a word are the one byte string of length 8 with the word's number (20_memory.md R63). -/
theorem eq_wordBytes_iff {bs : List Byte} {v : Word} :
    bs = wordBytes v ↔ bs.length = 8 ∧ BitVec.ofNat 64 (bytesToNat bs) = v := by
  constructor
  · rintro rfl
    exact ⟨wordBytes_length v, by rw [bytesToNat_wordBytes, BitVec.ofNat_toNat, BitVec.setWidth_eq]⟩
  · rintro ⟨hlen, rfl⟩
    have hlt : bytesToNat bs < 2 ^ 64 := by simpa [hlen] using bytesToNat_lt bs
    apply bytesToNat_inj_of_length_eq (by simp [hlen])
    rw [bytesToNat_wordBytes, BitVec.toNat_ofNat, Nat.mod_eq_of_lt hlt]

/-- No command is shorter or longer than eight bytes (30_encoding.md R80). -/
theorem decodeBytes_eq_some_iff {bs : List Byte} {i : Instr} :
    decodeBytes bs = some i ↔ bs.length = 8 ∧ decode (BitVec.ofNat 64 (bytesToNat bs)) = some i := by
  by_cases hlen : bs.length = 8 <;> simp [decodeBytes, hlen]

/-- Settles O3: eight bytes and their word determine each other, and so do a command and its word. -/
theorem bytesDecodeIffEncoded : Obligations.BytesDecodeIffEncoded := by
  intro bs i _
  rw [decodeBytes_eq_some_iff, decode_eq_some_iff, encodeBytes, eq_wordBytes_iff]

/-! ### A placed command (30_encoding.md R80, 40_command_lifecycle.md R102, R104) -/

theorem State.withFetchWord_toNat (s : State) (v : Word) : s.withFetchWord 64 v.toNat = s.placeCommand v := by
  rw [State.withFetchWord, Nat.mod_eq_of_lt v.isLt, BitVec.ofNat_toNat, BitVec.setWidth_eq]

/-- The engine is to move next, from the state in which the idle block has accepted the word. -/
theorem State.placeCommand_legal (s : State) {v : Word} {i : Instr} (hv : decode v = some i) :
    s.placeCommand v =
      ((State.accept { s with busy := false, inflight := none } (opcode i)).startCommand i).schedule
        (.completion :: s.agenda) := by
  rw [State.placeCommand, State.issueCommand_legal rfl hv, opField_of_decode hv]

/-- Settles O6: the placed command is in flight, and the event that stands first is its completion. -/
theorem placedCommandRunsNext : Obligations.PlacedCommandRunsNext := by
  intro s v i hv
  rw [State.withFetchWord_toNat, State.placeCommand_legal s hv]
  obtain ⟨_, hcompletion, _, _⟩ := stepTakesTheNextEvent (State.schedule _ (.completion :: s.agenda)) s.agenda
  exact hcompletion { op := i, a := s.opa, b := s.opb, m := s.opm } rfl ⟨rfl, rfl⟩

end Sys2Proof.Machine

/-! # The command lifecycle of 40_command_lifecycle.md: issue, accept, completion, abort, fairness -/

namespace Sys2Proof.Machine

/-! ### The completion (40_command_lifecycle.md R105 to R107) -/

theorem exec_inFlight (i : Instr) {s : State} {h : Latch} (hs : s.InFlight h) :
    exec i s = .next (s.commit (execResult i h)) := by
  rw [exec_eq_completeWith, completeWith_inFlight _ hs]

@[simp] theorem State.commit_inflight (s : State) (x : ExecResult) : (s.commit x).inflight = none := by
  cases x <;> rfl

/-- W is all a register's width depends on. -/
theorem fitWord_congr {c c' : Config} (h : c.width = c'.width) (n : Nat) : fitWord c n = fitWord c' n := by
  rw [fitWord, h, fitWord]

/-- R44 has ERR and ERRCODE at 0 while a command is in flight, so what a commit of it leaves there is the commit's. -/
theorem State.Inv.err_of_inFlight {s : State} {h : Latch} (hs : s.Inv) (hflight : s.InFlight h) :
    s.err = false ∧ s.errcode = 0#4 := by
  obtain ⟨_, ⟨hstatus, _⟩, _⟩ := hs
  exact (hstatus hflight.1).2

/-- Settles O14: both states commit the one result of the latches, in registers of the one width, over ERR and ERRCODE
that R44 has at 0 in both. -/
theorem outcomeDependsOnlyOnLatches : Obligations.OutcomeDependsOnlyOnLatches := by
  intro i s s' t t' h hs hs' hwidth hflight hflight' ht ht'
  cases (exec_inFlight i hflight).symm.trans ht
  cases (exec_inFlight i hflight').symm.trans ht'
  obtain ⟨herr, hcode⟩ := hs.err_of_inFlight hflight
  obtain ⟨herr', hcode'⟩ := hs'.err_of_inFlight hflight'
  cases execResult i h with
  | ok r n =>
    exact ⟨fitWord_congr hwidth n, herr.trans herr'.symm, hcode.trans hcode'.symm, fun _ => fitWord_congr hwidth r⟩
  | err e n => exact ⟨fitWord_congr hwidth n, rfl, rfl, nofun⟩

/-- Settles O11: either commit clears BUSY, sets DONE and gives up the latches. -/
theorem commandCompletes : Obligations.CommandCompletes := by
  intro i s h hflight
  exact ⟨_, exec_inFlight i hflight, s.commit_busy _, s.commit_done _, s.commit_inflight _⟩

/-- Settles O12: a completion is enabled only with BUSY = 1. -/
theorem idleEngineDoesNothing : Obligations.IdleEngineDoesNothing := by
  intro i s hidle
  rw [exec_eq_completeWith, completeWith_idle _ hidle]

/-! ### Issue and accept (40_command_lifecycle.md R101 to R104) -/

theorem State.memWrite_cmd (s : State) (v : Word) :
    s.memWrite 0x18#7 8 v = (s.issueCommand v).respond (some .okay) :=
  s.memWrite_offset .cmd v

/-- Settles O8: a CMD write to a busy block is an overrun. -/
theorem overrunDropsTheWord : Obligations.OverrunDropsTheWord := by
  intro s v hbusy
  rw [State.memWrite_cmd, State.issueCommand_busy v hbusy]
  rfl

/-- Settles O9: the accept and the error completion one after the other; BUSY and the latches they clear are clear
already in an idle block that has the invariant. -/
theorem illegalCommandCompletesAtOnce : Obligations.IllegalCommandCompletesAtOnce := by
  intro s v ⟨_, _, hlatch, _, _⟩ hidle hv
  have hnone : s.inflight = none := by simpa [hidle] using hlatch
  rw [State.memWrite_cmd, State.issueCommand_illegal hidle hv, opField_eq_ofNat]
  simp [State.fail, State.accept, State.respond, CommandError.code, hidle, hnone]

/-- An operand register's write leaves the command in flight (40_command_lifecycle.md R104). -/
theorem State.inFlight_memWrite_operand {s : State} {h : Latch} (hs : s.InFlight h) {off : Offset}
    (hoff : off = 0x20#7 ∨ off = 0x28#7 ∨ off = 0x30#7) (w : Word) : (s.memWrite off 8 w).InFlight h := by
  obtain rfl | rfl | rfl := hoff
  · exact (s.memWrite_offset .opa w).symm ▸ hs
  · exact (s.memWrite_offset .opb w).symm ▸ hs
  · exact (s.memWrite_offset .opm w).symm ▸ hs

/-- Settles O10: the accept and the start one after the other. -/
theorem legalCommandLatchesOperands : Obligations.LegalCommandLatchesOperands := by
  intro s v op hidle hv
  rw [State.memWrite_cmd, State.issueCommand_legal hidle hv, opField_eq_ofNat]
  exact ⟨rfl, fun off w hoff => State.inFlight_memWrite_operand ⟨rfl, rfl⟩ hoff w⟩

/-- When the engine moves next, the step is exec of the command in flight (log entry 3). -/
theorem step_engineNext {s : State} {h : Latch} (hnext : s.EngineNext) (hs : s.InFlight h) :
    step s = exec h.op { s with agenda := s.agenda.tail, response := none } := by
  obtain hnil | hhead := hnext
  · have hstep : step s = (s.respond none).completion := by simp [step, State.advance, hnil]
    have hrespond : s.respond none = { s with agenda := s.agenda.tail, response := none } := by
      simp [State.respond, hnil]
    rw [hstep, hrespond]
    exact State.completion_inFlight hs
  · obtain ⟨rest, hcons⟩ := List.head?_eq_some_iff.mp hhead
    rw [step_of_agenda_cons hcons, hcons]
    exact State.completion_inFlight hs

/-- The step of a CMD write is the write at CMD's offset. -/
theorem step_cmdWrite {s : State} {v : Word} {rest : List Event}
    (hs : s.agenda = .bus (.write (s.cfg.base + 0x18) 8 v) :: rest) :
    step s = .next (State.memWrite { s with agenda := rest, response := none } 0x18#7 8 v) := by
  rw [step_of_agenda_cons hs]
  obtain ⟨hwindow, _⟩ := windowDecodesItsAddresses { s with agenda := rest, response := none } 8 v
  exact congrArg Host.Outcome.next (hwindow 0x18#7).2

/-- Settles O5: the first step is the CMD write of O10, and the second is the engine's. -/
theorem stepRunsDecodedCommand : Obligations.StepRunsDecodedCommand := by
  intro s v i rest hidle hv hagenda
  obtain ⟨events, hcons, hnext, rfl⟩ : ∃ events,
      s.agenda = .bus (.write (s.cfg.base + 0x18) 8 v) :: events ∧
      (events = [] ∨ events.head? = some .completion) ∧ events.tail = rest := by
    obtain hagenda | ⟨rfl, hagenda⟩ := hagenda
    · exact ⟨_, hagenda, .inr rfl, rfl⟩
    · exact ⟨_, hagenda, .inl rfl, rfl⟩
  obtain ⟨hwrite, _⟩ := legalCommandLatchesOperands { s with agenda := events, response := none } v i hidle hv
  refine ⟨_, step_cmdWrite hcons, ?_⟩
  rw [hwrite]
  exact ⟨⟨rfl, rfl⟩, step_engineNext (h := { op := i, a := s.opa, b := s.opb, m := s.opm }) hnext ⟨rfl, rfl⟩⟩

/-! ### Abort (40_command_lifecycle.md R112, 70_reset_and_hazards.md R199) -/

/-- A run answers a next state where a predicate that counts the steps to go has every step answer and keep it. -/
theorem exists_run {P : Nat → State → Prop} (hstep : ∀ n s, P (n + 1) s → ∃ t, step s = .next t ∧ P n t) {n : Nat}
    {s : State} (hs : P n s) : ∃ t, Host.Core.run core n s = .next t ∧ P 0 t := by
  induction n generalizing s with
  | zero => exact ⟨s, run_zero s, hs⟩
  | succ n ih =>
    obtain ⟨u, hu, hP⟩ := hstep n s hs
    rw [run_succ hu]
    exact ih hP

section Taken
variable {p : Event → Prop} {n : Nat} {s t : State}

/-- The next event is the first of the n + 1 that n + 1 steps take. -/
theorem head_of_forall_take (h : ∀ e ∈ s.agenda.take (n + 1), p e) : ∀ e, s.agenda.head? = some e → p e := by
  intro e he
  obtain ⟨rest, hcons⟩ := List.head?_eq_some_iff.mp he
  exact h e (by simp [hcons])

/-- The n events after a step are among the n + 1 before it. -/
theorem forall_take_of_step (h : ∀ e ∈ s.agenda.take (n + 1), p e) (ht : step s = .next t) :
    ∀ e ∈ t.agenda.take n, p e := by
  intro e he
  have hmem : e ∈ (s.agenda.take (n + 1)).tail := by
    rw [List.tail_take_eq_take_tail, ← (stepKeepsTheParameters s t ht).2]
    exact he
  exact h e (List.mem_of_mem_tail hmem)

end Taken

/-- An idle block's step answers, with or without the invariant: its completion has no latches to look for. -/
theorem step_idle_answers {s : State} (hidle : s.busy = false) : ∃ t, step s = .next t := by
  obtain ⟨_, hs⟩ | ⟨tr, rest, _, hs⟩ | ⟨rest, _, hs⟩ | ⟨rest, _, hs⟩ := step_cases s
  · exact ⟨_, hs.trans (State.completion_idle hidle)⟩
  · exact ⟨_, hs⟩
  · exact ⟨_, hs.trans (State.completion_idle hidle)⟩
  · exact ⟨_, hs⟩

/-- No command is in flight and none has completed since the reset. -/
def NoCommandSinceReset (s : State) : Prop :=
  s.busy = false ∧ s.done = false ∧ s.result = 0#64 ∧ s.steps = 0#64

/-- Only a CMD write gives such a block a command, legal or illegal. -/
theorem BlockStep.noCommandSinceReset {s u : State} (h : BlockStep s u) (hs : NoCommandSinceReset s)
    (hissue : ∀ v, ¬ s.WriteNext 0x18 v) : NoCommandSinceReset u := by
  obtain ⟨hidle, hdone, hresult, hsteps⟩ := id hs
  cases h with
  | commit h hflight _ =>
    obtain ⟨hbusy, _⟩ := hflight
    simp [hidle] at hbusy
  | reset _ => exact ⟨rfl, rfl, rfl, rfl⟩
  | clearStatus v _ => exact ⟨hidle, by simp [hdone], hresult, hsteps⟩
  | overrun v hwrite _ => exact absurd hwrite (hissue v)
  | illegal v hwrite _ _ => exact absurd hwrite (hissue v)
  | start v op hwrite _ _ => exact absurd hwrite (hissue v)
  | quiet | writeIrqEn | writeOpa | writeOpb | writeOpm => exact hs

/-- A CMD write is an issue. -/
theorem State.not_writeNext_cmd {s : State} (h : ∀ e, s.agenda.head? = some e → e.isIssue s.cfg = false) (v : Word) :
    ¬ s.WriteNext 0x18 v := by
  intro hwrite
  simpa [Event.isIssue] using h _ hwrite

/-- No command since the reset, and no CMD write among the next n events. -/
def StaysAborted (n : Nat) (s : State) : Prop :=
  NoCommandSinceReset s ∧ ∀ e ∈ s.agenda.take n, e.isIssue s.cfg = false

theorem exists_step_staysAborted (n : Nat) (s : State) (hs : StaysAborted (n + 1) s) :
    ∃ t, step s = .next t ∧ StaysAborted n t := by
  obtain ⟨habort, hissue⟩ := hs
  obtain ⟨t, ht⟩ := step_idle_answers habort.1
  obtain ⟨hcfg, _⟩ := stepKeepsTheParameters s t ht
  have hlater := forall_take_of_step hissue ht
  obtain ⟨u, r, f, l, hu, rfl⟩ := step_blockReaches ht
  have hkeep := hu.noCommandSinceReset habort (State.not_writeNext_cmd (head_of_forall_take hissue))
  exact ⟨_, ht, hkeep, hcfg ▸ hlater⟩

/-- The engine's turn leaves an idle block as it is (60_exceptions.md R179). -/
theorem BlockStep.idle_completion {s u : State} (h : BlockStep s u) (hidle : s.busy = false)
    (hhead : ∀ e, s.agenda.head? = some e → e = .completion) : u = s := by
  cases h with
  | quiet => rfl
  | commit h hflight _ =>
    obtain ⟨hbusy, _⟩ := hflight
    simp [hidle] at hbusy
  | reset hreset =>
    obtain ⟨e, he, hr⟩ := hreset
    cases hhead e he
    cases hr
  | writeIrqEn _ hwrite | clearStatus _ hwrite | overrun _ hwrite | illegal _ hwrite | start _ _ hwrite
  | writeOpa _ hwrite | writeOpb _ hwrite | writeOpm _ hwrite => cases hhead _ hwrite

/-- The block is that of a machine with parameters c that has just come up, whatever the port, the fault record and the
agenda are, and the engine alone moves in the next n steps. -/
def StaysAsReset (c : Config) (n : Nat) (s : State) : Prop :=
  (∃ r f l, s = (State.resetWith c).withPort r f l) ∧ ∀ e ∈ s.agenda.take n, e = .completion

theorem step_staysAsReset (c : Config) (n : Nat) (s t : State) (hs : StaysAsReset c (n + 1) s)
    (ht : step s = .next t) : StaysAsReset c n t := by
  obtain ⟨⟨_, _, _, rfl⟩, hturns⟩ := hs
  have hlater := forall_take_of_step hturns ht
  obtain ⟨u, r, f, l, hu, rfl⟩ := step_blockReaches ht
  obtain rfl := hu.idle_completion rfl (head_of_forall_take hturns)
  exact ⟨⟨r, f, l, rfl⟩, hlater⟩

theorem State.readWord_withPort (s : State) (r : Option Response) (f : Bool) (l : List Event) (off : Offset) :
    (s.withPort r f l).readWord off = s.readWord off := rfl

/-- Settles O45: without a CMD write there is never again a command to commit, and the engine's turns alone leave the
block of the reset as it is. -/
theorem resetAbortsTheCommand : Obligations.ResetAbortsTheCommand := by
  intro s n hquiet
  have habort : StaysAborted n s.blockReset := ⟨⟨rfl, rfl, rfl, rfl⟩, hquiet⟩
  obtain ⟨t, hrun, ⟨hidle, hdone, hresult, hsteps⟩, _⟩ := exists_run exists_step_staysAborted habort
  refine ⟨t, hrun, by simp [State.irq, hdone], hidle, hdone, (t.readWord_offset .result).trans hresult,
    (t.readWord_offset .steps).trans hsteps, fun hturns off => ?_⟩
  have hreset : StaysAsReset s.cfg n s.blockReset := ⟨⟨s.response, s.hostFault, s.agenda, rfl⟩, hturns⟩
  obtain ⟨⟨r, f, l, rfl⟩, _⟩ := run_induction (step_staysAsReset s.cfg) hreset hrun
  exact State.readWord_withPort _ r f l off

/-! ### Fairness (40_command_lifecycle.md R109) -/

/-- The machine were the engine to move at once: what is in flight has committed. -/
def State.completed (s : State) : State :=
  match s.completion with
  | .next t    => t
  | .fault _   => s
  | .refused _ => s

theorem State.completed_of_completion {s t : State} (h : s.completion = .next t) : s.completed = t := by
  simp [State.completed, h]

theorem State.completed_inFlight {s : State} {h : Latch} (hs : s.InFlight h) :
    s.completed = s.commit (execResult h.op h) :=
  State.completed_of_completion ((State.completion_inFlight hs).trans (exec_inFlight h.op hs))

theorem State.completed_idle {s : State} (hs : s.busy = false) : s.completed = s :=
  State.completed_of_completion (State.completion_idle hs)

theorem State.busy_of_completion {s t : State} (h : s.completion = .next t) : t.busy = false := by
  rw [State.completion_eq_completeWith] at h
  obtain ⟨hidle, rfl⟩ | ⟨_, _, rfl⟩ := completeWith_next h
  · exact hidle
  · exact s.commit_busy _

/-- u's RESULT and STEPS are t's. -/
def SameResult (t u : State) : Prop := t.result = u.result ∧ t.steps = u.steps

/-- u's DONE, ERR and ERRCODE are t's. -/
def SameStatus (t u : State) : Prop := t.done = u.done ∧ t.err = u.err ∧ t.errcode = u.errcode

theorem SameResult.trans {t u v : State} (htu : SameResult t u) (huv : SameResult u v) : SameResult t v :=
  ⟨htu.1.trans huv.1, htu.2.trans huv.2⟩

theorem SameStatus.trans {t u v : State} (htu : SameStatus t u) (huv : SameStatus u v) : SameStatus t v :=
  ⟨htu.1.trans huv.1, htu.2.1.trans huv.2.1, htu.2.2.trans huv.2.2⟩

/-- With the same latches, completing is a commit of the same result, or does nothing, in both states. -/
theorem completed_cases {s u : State} (hbusy : u.busy = s.busy) (hlatch : u.inflight = s.inflight) :
    (u.completed = u ∧ s.completed = s) ∨ ∃ x, u.completed = u.commit x ∧ s.completed = s.commit x := by
  cases hs : s.busy with
  | false => exact .inl ⟨State.completed_idle (hbusy.trans hs), State.completed_idle hs⟩
  | true =>
    cases hi : s.inflight with
    | none =>
      exact .inl ⟨by simp [State.completed, State.completion, hbusy, hlatch, hs, hi],
        by simp [State.completed, State.completion, hs, hi]⟩
    | some h =>
      exact .inr ⟨_, State.completed_inFlight ⟨hbusy.trans hs, hlatch.trans hi⟩, State.completed_inFlight ⟨hs, hi⟩⟩

section SameLatches
variable {s u : State} (hbusy : u.busy = s.busy) (hlatch : u.inflight = s.inflight)
include hbusy hlatch

theorem sameResult_completed (hcfg : u.cfg = s.cfg) (h : SameResult u s) : SameResult u.completed s.completed := by
  obtain ⟨hu, hs⟩ | ⟨x, hu, hs⟩ := completed_cases hbusy hlatch <;> rw [hu, hs]
  · exact h
  · have hfit : ∀ n, fitWord u.cfg n = fitWord s.cfg n := fun n => by rw [hcfg]
    cases x with
    | ok r n => exact ⟨hfit r, hfit n⟩
    | err e n => exact ⟨h.1, hfit n⟩

theorem sameStatus_completed (h : SameStatus u s) : SameStatus u.completed s.completed := by
  obtain ⟨hu, hs⟩ | ⟨x, hu, hs⟩ := completed_cases hbusy hlatch <;> rw [hu, hs]
  · exact h
  · cases x with
    | ok r n => exact ⟨rfl, h.2⟩
    | err e n => exact ⟨rfl, rfl, rfl⟩

end SameLatches

/-- Completing after a step is completing before it, for RESULT and STEPS unless the step takes a CMD write or a reset,
and for DONE, ERR and ERRCODE unless it takes a STATUS write either. -/
theorem BlockStep.completed {s u : State} (h : BlockStep s u)
    (hhead : ∀ e, s.agenda.head? = some e → e.isIssue s.cfg = false ∧ e.isReset s.cfg = false) :
    SameResult u.completed s.completed ∧
      ((∀ v, ¬ s.WriteNext 0x10 v) → SameStatus u.completed s.completed) := by
  have hissue := State.not_writeNext_cmd fun e he => (hhead e he).1
  cases h with
  | commit h hflight _ =>
    rw [State.completed_idle (s.commit_busy _), State.completed_inFlight hflight]
    exact ⟨⟨rfl, rfl⟩, fun _ => ⟨rfl, rfl, rfl⟩⟩
  | reset hreset =>
    obtain ⟨e, he, hr⟩ := hreset
    simp [(hhead e he).2] at hr
  | clearStatus v hwrite =>
    exact ⟨sameResult_completed rfl rfl rfl ⟨rfl, rfl⟩, fun hstatus => absurd hwrite (hstatus v)⟩
  | overrun v hwrite _ => exact absurd hwrite (hissue v)
  | illegal v hwrite _ _ => exact absurd hwrite (hissue v)
  | start v op hwrite _ _ => exact absurd hwrite (hissue v)
  | quiet | writeIrqEn | writeOpa | writeOpb | writeOpm =>
    exact ⟨sameResult_completed rfl rfl rfl ⟨rfl, rfl⟩, fun _ => sameStatus_completed rfl rfl ⟨rfl, rfl, rfl⟩⟩

/-- t holds what completing s at once would commit, unless an event to come may write it. -/
def HoldsOutcome (s t : State) : Prop :=
  (∀ e ∈ s.agenda, e.isIssue s.cfg = false ∧ e.isReset s.cfg = false) →
    SameResult t s.completed ∧
      ((∀ v : Word, .bus (.write (s.cfg.base + 0x10) 8 v) ∉ s.agenda) → SameStatus t s.completed)

/-- With no event left, the engine's move is the completion. -/
theorem holdsOutcome_completion {s t : State} (ht : (s.respond none).completion = .next t) : HoldsOutcome s t := by
  obtain rfl := State.completed_of_completion ht
  exact fun _ => ⟨sameResult_completed rfl rfl rfl ⟨rfl, rfl⟩, fun _ => sameStatus_completed rfl rfl ⟨rfl, rfl, rfl⟩⟩

theorem holdsOutcome_of_step {s u t : State} (hu : step s = .next u) (ht : HoldsOutcome u t) : HoldsOutcome s t := by
  intro hquiet
  obtain ⟨hcfg, hagenda⟩ := stepKeepsTheParameters s u hu
  have hlater : ∀ e ∈ u.agenda, e ∈ s.agenda := fun e he => List.mem_of_mem_tail (hagenda ▸ he)
  obtain ⟨hresult, hstatus⟩ := ht fun e he => hcfg ▸ hquiet e (hlater e he)
  obtain ⟨v, r, f, l, hv, rfl⟩ := step_blockReaches hu
  obtain ⟨hresultStep, hstatusStep⟩ := hv.completed fun e he => hquiet e (List.mem_of_mem_head? he)
  have hresultPort : SameResult (v.withPort r f l).completed v.completed :=
    sameResult_completed rfl rfl rfl ⟨rfl, rfl⟩
  have hstatusPort : SameStatus (v.withPort r f l).completed v.completed :=
    sameStatus_completed rfl rfl ⟨rfl, rfl, rfl⟩
  refine ⟨hresult.trans (hresultPort.trans hresultStep), fun hnone => ?_⟩
  have hnoneLater := hstatus fun x hx => hnone x (hcfg ▸ hlater _ hx)
  exact hnoneLater.trans (hstatusPort.trans (hstatusStep fun x hx => hnone x (List.mem_of_mem_head? hx)))

/-- The run of one step more than there are events to come ends with the engine's move, on an idle block or with its
commit. -/
theorem exists_run_holdsOutcome {events : List Event} {s : State} (hs : s.Inv) (hevents : s.agenda = events) :
    ∃ t, Host.Core.run core (events.length + 1) s = .next t ∧ t.busy = false ∧ HoldsOutcome s t := by
  induction events generalizing s with
  | nil =>
    have hstep : step s = (s.respond none).completion := by simp [step, State.advance, hevents]
    obtain ⟨_, _, hlatch, _, _⟩ := hs
    obtain ⟨t, ht⟩ := State.completion_answers (s := s.respond none) hlatch
    exact ⟨t, (run_succ (hstep.trans ht)).trans (run_zero t), State.busy_of_completion ht,
      holdsOutcome_completion ht⟩
  | cons e rest ih =>
    obtain ⟨u, hu⟩ := stepAlwaysAnswers s hs
    obtain ⟨_, hagenda⟩ := stepKeepsTheParameters s u hu
    obtain ⟨t, hrun, hidle, ht⟩ := ih (stepKeepsTheInvariant s u hs hu) (by rw [hagenda, hevents, List.tail_cons])
    exact ⟨t, (run_succ hu).trans hrun, hidle, holdsOutcome_of_step hu ht⟩

/-- Settles O58: the last step is the engine's, and what completing at once would commit is what the run's end holds. -/
theorem commandEventuallyCompletes : Obligations.CommandEventuallyCompletes := by
  intro s hs
  obtain ⟨t, hrun, hidle, ht⟩ := exists_run_holdsOutcome hs rfl
  refine ⟨t, hrun, hidle, fun h hflight hquiet => ?_⟩
  obtain ⟨⟨hresult, hsteps⟩, hstatus⟩ := ht hquiet
  have hcommit := State.completed_inFlight hflight
  rw [hcommit] at hresult hsteps hstatus
  refine ⟨_, exec_inFlight h.op hflight, hresult, hsteps, fun hnone => ?_⟩
  obtain ⟨hdone, herr, hcode⟩ := hstatus hnone
  exact ⟨hdone.trans (s.commit_done _), herr, hcode⟩

end Sys2Proof.Machine

/-! # GCD: the Euclidean loop runs to its end and leaves the greatest common divisor (41_gcd.md) -/

namespace Sys2Proof.Machine

/-! ### Commands in flight, whatever the command -/

/-- An idle block takes a legal word up as the command in flight (40_command_lifecycle.md R104). -/
theorem State.inFlight_memWrite_cmd {s : State} {v : Word} {op : Instr} (hidle : s.busy = false)
    (hv : decode v = some op) : (s.memWrite 0x18#7 8 v).InFlight (s.latchOperands op) := by
  rw [State.memWrite_cmd, State.issueCommand_legal hidle hv]
  exact ⟨rfl, rfl⟩

/-- A success that fits W bits is committed as the registers R106 writes. -/
theorem exec_eq_afterOk {i : Instr} {s : State} {h : Latch} {r n : Nat} (hflight : s.InFlight h)
    (hres : execResult i h = .ok r n) (hr : r < 2 ^ s.cfg.width) (hn : n < 2 ^ s.cfg.width) :
    exec i s = .next (s.afterOk r n) := by
  rw [exec_inFlight i hflight, hres, State.commit, s.succeed_eq_afterOk r n hr hn]

/-- A commit gives the latches up, so it leaves nothing of what they were. -/
theorem State.commit_relatch (s : State) (l : Option Latch) (x : ExecResult) :
    State.commit { s with inflight := l } x = s.commit x := by
  cases x <;> rfl

/-- Latches with the same outcome give the same next state. -/
theorem exec_relatch {i : Instr} {s : State} {h h' : Latch} (hflight : s.InFlight h)
    (hres : execResult i h' = execResult i h) : exec i { s with inflight := some h' } = exec i s := by
  have hflight' : State.InFlight { s with inflight := some h' } h' := ⟨hflight.1, rfl⟩
  rw [exec_inFlight i hflight, exec_inFlight i hflight', hres, State.commit_relatch]

/-- Settles O15: Exec of GCD does not read h.M, and Exec of MODINV does not read h.B. -/
theorem ignoredOperands : Obligations.IgnoredOperands := by
  intro s h x hflight
  exact ⟨exec_relatch hflight rfl, exec_relatch hflight rfl⟩

/-! ### The trip count of the loop -/

/-- The loop of R120 started on w makes exactly k trips: b is not 0 before each of them and is 0 after the last. -/
def GcdRegs.EndsAfter (w : GcdRegs) (k : Nat) : Prop :=
  (∀ j < k, (gcdTrip^[j] w).b ≠ 0) ∧ (gcdTrip^[k] w).b = 0

/-- The first trip after which b is 0 comes within R122's bound. -/
theorem exists_endsAfter {W : Nat} {w : GcdRegs} (hb : w.b < 2 ^ W) : ∃ k ≤ 2 * W, w.EndsAfter k := by
  obtain ⟨n, hn, hzero⟩ := exists_gcdTrip_b_eq_zero W w hb
  have hex : ∃ k, (gcdTrip^[k] w).b = 0 := ⟨n, hzero⟩
  exact ⟨Nat.find hex, (Nat.find_min' hex hzero).trans hn, fun _ => Nat.find_min hex, Nat.find_spec hex⟩

/-- A trip lowers a nonzero b. -/
theorem gcdTrip_b_lt {w : GcdRegs} (hb : w.b ≠ 0) : (gcdTrip w).b < w.b :=
  Nat.mod_lt _ (Nat.pos_of_ne_zero hb)

theorem iterate_gcdTrip_b_add_le {w : GcdRegs} {k : Nat} (hrun : ∀ j < k, (gcdTrip^[j] w).b ≠ 0) :
    (gcdTrip^[k] w).b + k ≤ w.b := by
  induction k with
  | zero => exact le_refl _
  | succ k ih =>
    have hle := ih fun j hj => hrun j (by omega)
    have hlt := gcdTrip_b_lt (hrun k (by omega))
    rw [Function.iterate_succ_apply']
    omega

/-- There are at most B trips, so the count fits a W-bit register where 2 * W does not (W = 2, log entry 13). -/
theorem GcdRegs.EndsAfter.count_le {w : GcdRegs} {k : Nat} (h : w.EndsAfter k) : k ≤ w.b := by
  obtain ⟨hrun, _⟩ := h
  have hle := iterate_gcdTrip_b_add_le hrun
  omega

/-! ### The value the loop leaves -/

/-- The Euclidean step: gcd(b, a mod b) = gcd(a, b). -/
theorem gcd_gcdTrip (w : GcdRegs) : Nat.gcd (gcdTrip w).a (gcdTrip w).b = Nat.gcd w.a w.b := by
  calc Nat.gcd w.b (w.a % w.b)
      = Nat.gcd (w.a % w.b) w.b := Nat.gcd_comm _ _
    _ = Nat.gcd w.b w.a := (Nat.gcd_rec _ _).symm
    _ = Nat.gcd w.a w.b := Nat.gcd_comm _ _

theorem gcd_iterate_gcdTrip (k : Nat) (w : GcdRegs) :
    Nat.gcd (gcdTrip^[k] w).a (gcdTrip^[k] w).b = Nat.gcd w.a w.b := by
  induction k with
  | zero => rfl
  | succ k ih => rw [Function.iterate_succ_apply', gcd_gcdTrip, ih]

/-- With b at 0, a is gcd(a, b). -/
theorem GcdRegs.EndsAfter.a_eq_gcd {w : GcdRegs} {k : Nat} (h : w.EndsAfter k) :
    (gcdTrip^[k] w).a = Nat.gcd w.a w.b := by
  obtain ⟨_, hzero⟩ := h
  rw [← gcd_iterate_gcdTrip k w, hzero, Nat.gcd_zero_right]

/-- The budget is not what ends a loop whose trips are within it (log entry 12). -/
theorem gcdResult_of_endsAfter {a b k : Nat} (h : (gcdStart a b).EndsAfter k) (hk : k ≤ tripBudget) :
    gcdResult a b = .ok (Nat.gcd a b) k := by
  obtain ⟨hrun, hzero⟩ := id h
  have hloop : whileLoop gcdGuard gcdTrip tripBudget (gcdStart a b) = gcdTrip^[k] (gcdStart a b) :=
    whileLoop_eq_iterate hk (fun j hj => by simp [gcdGuard, hrun j hj]) (by simp [gcdGuard, hzero])
  have hcnt : (gcdTrip^[k] (gcdStart a b)).cnt = 0 + k :=
    iterate_count (count := GcdRegs.cnt) (fun _ => rfl) k _
  rw [gcdResult, hloop, hcnt, h.a_eq_gcd, Nat.zero_add]
  rfl

/-- gcd(a, b) divides the one of a and b that is not 0. -/
theorem gcd_le_max (a b : Nat) : Nat.gcd a b ≤ max a b := by
  obtain rfl | ha := Nat.eq_zero_or_pos a
  · simp
  · exact (Nat.gcd_le_left b ha).trans (le_max_left a b)

/-! ### The completion -/

/-- GCD on W-bit operands commits their gcd and the trip count of the loop. -/
theorem exec_gcd {s : State} {h : Latch} (hflight : s.InFlight h) (hcfg : s.cfg.wellFormed = true)
    (ha : Fits s.cfg h.a) (hb : Fits s.cfg h.b) :
    ∃ k ≤ 2 * s.cfg.width, (gcdStart h.a.toNat h.b.toNat).EndsAfter k ∧
      exec .gcd s = .next (s.afterOk (Nat.gcd h.a.toNat h.b.toNat) k) := by
  obtain ⟨_, hwidth⟩ := Config.width_bounds hcfg
  obtain ⟨k, hk, hends⟩ := exists_endsAfter (w := gcdStart h.a.toNat h.b.toNat) hb
  have hbudget : k ≤ tripBudget := hk.trans (Nat.mul_le_mul_left 2 hwidth)
  have hfit : Nat.gcd h.a.toNat h.b.toNat < 2 ^ s.cfg.width := (gcd_le_max _ _).trans_lt (max_lt ha hb)
  have hcount : k < 2 ^ s.cfg.width := hends.count_le.trans_lt hb
  exact ⟨k, hk, hends, exec_eq_afterOk hflight (gcdResult_of_endsAfter hends hbudget) hfit hcount⟩

/-- Settles O23: the loop's a after its last trip is the gcd that is committed. -/
theorem gcdRunsItsLoop : Obligations.GcdRunsItsLoop := by
  refine ⟨fun s hidle => State.inFlight_memWrite_cmd hidle (by decide), fun s h hs hflight => ?_⟩
  obtain ⟨ha, hb, _, _⟩ := hs.latchOk hflight
  obtain ⟨k, hk, hends, hexec⟩ := exec_gcd hflight hs.1 ha hb
  obtain ⟨hrun, hzero⟩ := id hends
  have hgcd : (gcdTrip^[k] (gcdStart h.a.toNat h.b.toNat)).a = Nat.gcd h.a.toNat h.b.toNat := hends.a_eq_gcd
  refine ⟨k, hk, hrun, hzero, ?_, ?_⟩
  · rw [hgcd]
    exact gcd_le_max _ _
  · rw [hgcd]
    exact hexec

/-- Settles O24: both operand orders commit the gcd, and B = 0 leaves the loop no trip to make. -/
theorem gcdIsGreatestCommonDivisor : Obligations.GcdIsGreatestCommonDivisor := by
  refine ⟨fun s h hs hflight => ?_, by decide, by decide⟩
  obtain ⟨ha, hb, _, _⟩ := hs.latchOk hflight
  obtain ⟨k, _, hends, hexec⟩ := exec_gcd hflight hs.1 ha hb
  have hswapped : State.InFlight { s with inflight := some { h with a := h.b, b := h.a } }
      { h with a := h.b, b := h.a } := ⟨hflight.1, rfl⟩
  obtain ⟨kswap, _, _, hswap⟩ := exec_gcd hswapped hs.1 hb ha
  refine ⟨⟨k, hexec⟩, ⟨kswap, ?_⟩, fun hb0 => ?_, fun ha0 => ⟨k, ?_⟩⟩
  · rw [Nat.gcd_comm]
    exact hswap
  · have hk : k = 0 := Nat.le_zero.mp (hends.count_le.trans_eq hb0)
    rw [hexec, hb0, hk, Nat.gcd_zero_right]
  · rw [hexec, ha0, Nat.gcd_zero_left]

end Sys2Proof.Machine

/-! # MODINV: the extended Euclidean loop runs to its end and leaves the inverse (42_modinv.md) -/

namespace Sys2Proof.Machine

/-! ### The trip count of the loop -/

/-- The loop of R130 started on w makes exactly k trips: NEWR is not 0 before each of them and is 0 after the last. -/
def InvRegs.EndsAfter (w : InvRegs) (k : Nat) : Prop :=
  (∀ j < k, (invTrip^[j] w).newr ≠ 0) ∧ (invTrip^[k] w).newr = 0

/-- It makes as many trips as GCD's on R and NEWR (R134). -/
theorem InvRegs.endsAfter_iff_gcdRegs {w : InvRegs} {k : Nat} : w.EndsAfter k ↔ w.gcdRegs.EndsAfter k := by
  simp only [InvRegs.EndsAfter, GcdRegs.EndsAfter, iterate_invTrip_newr]

/-- R134's bound on the trips. -/
theorem exists_inv_endsAfter {W : Nat} {w : InvRegs} (hnewr : w.newr < 2 ^ W) : ∃ k ≤ 2 * W, w.EndsAfter k := by
  obtain ⟨k, hk, hends⟩ := exists_endsAfter (w := w.gcdRegs) hnewr
  exact ⟨k, hk, InvRegs.endsAfter_iff_gcdRegs.mpr hends⟩

theorem InvRegs.EndsAfter.count_le {w : InvRegs} {k : Nat} (h : w.EndsAfter k) : k ≤ w.newr :=
  (InvRegs.endsAfter_iff_gcdRegs.mp h).count_le

/-- A loop that starts with a NEWR other than 0 has a first trip, and goes on after it. -/
theorem InvRegs.EndsAfter.tail {w : InvRegs} {k : Nat} (h : w.EndsAfter k) (hnewr : w.newr ≠ 0) :
    ∃ j, k = j + 1 ∧ (invTrip w).EndsAfter j := by
  obtain ⟨hrun, hzero⟩ := h
  cases k with
  | zero => exact absurd hzero hnewr
  | succ j => exact ⟨j, rfl, fun i hi => hrun (i + 1) (by omega), hzero⟩

/-- R = gcd(A, n) at the loop's end (R130). -/
theorem InvRegs.EndsAfter.r_eq_gcd {w : InvRegs} {k : Nat} (h : w.EndsAfter k) :
    (invTrip^[k] w).r = Nat.gcd w.newr w.r := by
  have hr : (invTrip^[k] w).r = (gcdTrip^[k] w.gcdRegs).a :=
    congrArg GcdRegs.a ((gcdRegs_semiconj_invTrip.iterate_right k).eq w)
  rw [hr, (InvRegs.endsAfter_iff_gcdRegs.mp h).a_eq_gcd, Nat.gcd_comm]
  rfl

/-! ### What every trip keeps -/

/-- The natural subtraction of R - q * NEWR is exact (R130). -/
theorem invTrip_newr_cast (w : InvRegs) :
    ((invTrip w).newr : Int) = w.r - ((w.r / w.newr : Nat) : Int) * w.newr := by
  have hle : w.r / w.newr * w.newr ≤ w.r := Nat.div_mul_le_self w.r w.newr
  simp only [invTrip, Nat.cast_sub hle, Nat.cast_mul]

/-- A predicate that a trip keeps holds after any number of trips. -/
theorem iterate_invTrip_induction {P : InvRegs → Prop} (htrip : ∀ w, P w → P (invTrip w)) {w : InvRegs} (hw : P w)
    (k : Nat) : P (invTrip^[k] w) := by
  induction k with
  | zero => exact hw
  | succ k ih =>
    rw [Function.iterate_succ_apply']
    exact htrip _ ih

/-- T * A is R mod n, and NEWT * A is NEWR mod n. -/
def InvRegs.Bezout (a n : Nat) (w : InvRegs) : Prop :=
  (n : Int) ∣ w.t * a - w.r ∧ (n : Int) ∣ w.newt * a - w.newr

theorem bezout_invStart (a n : Nat) : (invStart a n).Bezout a n := by
  constructor <;> simp [invStart]

/-- The new NEWT and NEWR are one and the same combination of the old registers. -/
theorem InvRegs.Bezout.trip {a n : Nat} (w : InvRegs) (h : w.Bezout a n) : (invTrip w).Bezout a n := by
  obtain ⟨ht, hnewt⟩ := h
  refine ⟨hnewt, ?_⟩
  have hcomb : (invTrip w).newt * a - (invTrip w).newr =
      (w.t * a - w.r) - ((w.r / w.newr : Nat) : Int) * (w.newt * a - w.newr) := by
    rw [invTrip_newr_cast]
    simp only [invTrip]
    ring
  rw [hcomb]
  exact dvd_sub ht (Dvd.dvd.mul_left hnewt _)

/-- T and NEWT never have the same sign, and R * abs(NEWT) + NEWR * abs(T) = n: what bounds the coefficients (R133). -/
def InvRegs.Balanced (n : Nat) (w : InvRegs) : Prop :=
  w.t * w.newt ≤ 0 ∧ w.r * |w.newt| + w.newr * |w.t| = n

theorem balanced_invStart (a n : Nat) : (invStart a n).Balanced n := by
  constructor <;> simp [invStart]

/-- Subtracting a natural multiple of a number without the same sign adds the absolute values. -/
theorem abs_sub_natCast_mul {x y : Int} (q : Nat) (h : x * y ≤ 0) : |x - q * y| = |x| + q * |y| := by
  have hopposite : 0 ≤ x * -(q * y) := by
    have hscaled : (q : Int) * (x * y) ≤ 0 := mul_nonpos_of_nonneg_of_nonpos (Int.natCast_nonneg q) h
    linarith
  have habs : |x + -(q * y)| = |x| + |-(q * y)| := by
    rw [abs_add_eq_add_abs_iff]
    exact mul_nonneg_iff.mp hopposite
  rw [sub_eq_add_neg, habs, abs_neg, abs_mul, Nat.abs_cast]

theorem InvRegs.Balanced.trip {n : Nat} (w : InvRegs) (h : w.Balanced n) : (invTrip w).Balanced n := by
  obtain ⟨hsign, hsum⟩ := h
  have habs : |(invTrip w).newt| = |w.t| + ((w.r / w.newr : Nat) : Int) * |w.newt| :=
    abs_sub_natCast_mul _ hsign
  refine ⟨?_, ?_⟩
  · have hsquare : 0 ≤ ((w.r / w.newr : Nat) : Int) * (w.newt * w.newt) :=
      mul_nonneg (Int.natCast_nonneg _) (mul_self_nonneg _)
    simp only [invTrip]
    linarith
  · rw [habs, invTrip_newr_cast]
    simp only [invTrip]
    linarith

theorem bezout_iterate (a n k : Nat) : (invTrip^[k] (invStart a n)).Bezout a n :=
  iterate_invTrip_induction InvRegs.Bezout.trip (bezout_invStart a n) k

theorem balanced_iterate (a n k : Nat) : (invTrip^[k] (invStart a n)).Balanced n :=
  iterate_invTrip_induction InvRegs.Balanced.trip (balanced_invStart a n) k

/-! ### The coefficients' range (R131, R133) -/

theorem InvRegs.Balanced.r_mul_abs_newt_le {n : Nat} {w : InvRegs} (h : w.Balanced n) : w.r * |w.newt| ≤ n := by
  obtain ⟨_, hsum⟩ := h
  have hother : 0 ≤ (w.newr : Int) * |w.t| := by positivity
  exact hsum ▸ le_add_of_nonneg_right hother

/-- A positive R leaves NEWT no room above n. -/
theorem InvRegs.Balanced.abs_newt_le {n : Nat} {w : InvRegs} (h : w.Balanced n) (hr : 1 ≤ w.r) : |w.newt| ≤ n :=
  calc |w.newt| ≤ w.r * |w.newt| := le_mul_of_one_le_left (abs_nonneg _) (by exact_mod_cast hr)
    _ ≤ n := h.r_mul_abs_newt_le

/-- An R of 2 or more leaves NEWT strictly below n. -/
theorem InvRegs.Balanced.abs_newt_lt {n : Nat} {w : InvRegs} (h : w.Balanced n) (hn : 1 ≤ n) (hr : 2 ≤ w.r) :
    |w.newt| < n := by
  have hdouble : 2 * |w.newt| ≤ w.r * |w.newt| :=
    mul_le_mul_of_nonneg_right (by exact_mod_cast hr) (abs_nonneg _)
  have hle := h.r_mul_abs_newt_le
  have hpos := abs_nonneg w.newt
  omega

/-- R is positive for as long as the loop runs: it is n, and then a NEWR that let a trip begin. -/
theorem one_le_r_iterate {a n k : Nat} (hn : 1 ≤ n) (hrun : ∀ j < k, (invTrip^[j] (invStart a n)).newr ≠ 0) :
    1 ≤ (invTrip^[k] (invStart a n)).r := by
  cases k with
  | zero => exact hn
  | succ k =>
    rw [Function.iterate_succ_apply']
    exact Nat.one_le_iff_ne_zero.mpr (hrun k (by omega))

/-- T is the NEWT of one trip before. -/
theorem abs_t_iterate_le {a n k : Nat} (hn : 1 ≤ n) (hrun : ∀ j < k, (invTrip^[j] (invStart a n)).newr ≠ 0) :
    |(invTrip^[k] (invStart a n)).t| ≤ n := by
  cases k with
  | zero => simp [invStart]
  | succ k =>
    rw [Function.iterate_succ_apply']
    exact (balanced_iterate a n k).abs_newt_le (one_le_r_iterate hn fun j hj => hrun j (by omega))

/-- After the first trip NEWR is a remainder by R. -/
theorem newr_lt_r_invTrip {w : InvRegs} (h : w.newr ≠ 0) : (invTrip w).newr < (invTrip w).r := by
  have hnewr : (invTrip w).newr = w.r % w.newr := iterate_invTrip_newr 1 w
  rw [hnewr]
  exact Nat.mod_lt _ (Nat.pos_of_ne_zero h)

/-- With R = 1 at the loop's end, the R of one trip before was at least 2, or there was one trip only, from A = 1. -/
theorem abs_t_iterate_lt {a n k : Nat} (hn : 1 ≤ n) (hrun : ∀ j < k, (invTrip^[j] (invStart a n)).newr ≠ 0)
    (hr : (invTrip^[k] (invStart a n)).r = 1) (hne : ¬(a = 1 ∧ n = 1)) : |(invTrip^[k] (invStart a n)).t| < n := by
  match k with
  | 0 =>
    have hpos : 0 < n := hn
    simpa [invStart] using hpos
  | 1 =>
    have ha : a = 1 := hr
    have hn2 : 1 < n := by omega
    simpa [invTrip, invStart] using hn2
  | k + 2 =>
    rw [Function.iterate_succ_apply'] at hr ⊢
    have hnewr : (invTrip^[k + 1] (invStart a n)).newr = 1 := hr
    have hlt := newr_lt_r_invTrip (hrun k (by omega))
    rw [← Function.iterate_succ_apply' invTrip k, hnewr] at hlt
    exact (balanced_iterate a n (k + 1)).abs_newt_lt hn hlt

/-- Settles O27: the bounds on NEWT, and on T as the NEWT of the trip before. -/
theorem modinvCoefficientsBounded : Obligations.ModinvCoefficientsBounded := by
  intro a n k hn hrun
  exact ⟨abs_t_iterate_le hn hrun, (balanced_iterate a n k).abs_newt_le (one_le_r_iterate hn hrun),
    fun _ hr hne => abs_lt.mp (abs_t_iterate_lt hn hrun hr hne)⟩

/-! ### The normalization (R131) -/

/-- Adding n to a negative T is no more than T mod n does. -/
theorem normalizeInverse_eq_emod (t : Int) (n : Nat) : normalizeInverse t n = (t % n).toNat := by
  unfold normalizeInverse
  split
  · rw [Int.add_emod_right]
  · rfl

theorem normalizeInverse_cast (t : Int) {n : Nat} (hn : n ≠ 0) : (normalizeInverse t n : Int) = t % n := by
  rw [normalizeInverse_eq_emod, Int.toNat_of_nonneg (Int.emod_nonneg t (by exact_mod_cast hn))]

theorem normalizeInverse_lt (t : Int) {n : Nat} (hn : n ≠ 0) : normalizeInverse t n < n := by
  have hlt : t % n < n := Int.emod_lt_of_pos t (by omega)
  have hcast := normalizeInverse_cast t hn
  omega

/-- Normalized, a T with T * A = 1 mod n is A's inverse (R135). -/
theorem mul_normalizeInverse_mod {a n : Nat} {t : Int} (hn : n ≠ 0) (h : (n : Int) ∣ t * a - 1) :
    a * normalizeInverse t n % n = 1 % n := by
  have hmod : (a * (t % n) : Int) ≡ 1 [ZMOD n] :=
    calc (a * (t % n) : Int) ≡ a * t [ZMOD n] := (Int.mod_modEq t n).mul_left a
      _ ≡ 1 [ZMOD n] := (Int.modEq_iff_dvd.mpr (by rwa [mul_comm])).symm
  rw [← normalizeInverse_cast t hn] at hmod
  exact Int.natCast_modEq_iff.mp (by exact_mod_cast hmod)

/-! ### The completion -/

/-- An error whose count fits W bits is committed as the registers R107 writes. -/
theorem exec_eq_afterErr {i : Instr} {s : State} {h : Latch} {e : CommandError} {n : Nat} (hflight : s.InFlight h)
    (hres : execResult i h = .err e n) (hn : n < 2 ^ s.cfg.width) : exec i s = .next (s.afterErr e.code n) := by
  rw [exec_inFlight i hflight, hres, State.commit, s.fail_eq_afterErr e n hn]

/-- The budget is not what ends a loop whose trips are within it (log entry 12). -/
theorem modinvResult_of_endsAfter {a n k : Nat} (hn : n ≠ 0) (h : (invStart a n).EndsAfter k) (hk : k ≤ tripBudget) :
    modinvResult a n =
      if (invTrip^[k] (invStart a n)).r ≠ 1 then .err .noInverse k
      else .ok (normalizeInverse (invTrip^[k] (invStart a n)).t n) k := by
  obtain ⟨hrun, hzero⟩ := h
  have hloop : whileLoop invGuard invTrip tripBudget (invStart a n) = invTrip^[k] (invStart a n) :=
    whileLoop_eq_iterate hk (fun j hj => by simp [invGuard, hrun j hj]) (by simp [invGuard, hzero])
  have hcnt : (invTrip^[k] (invStart a n)).cnt = 0 + k :=
    iterate_count (count := InvRegs.cnt) (fun _ => rfl) k _
  simp only [modinvResult, if_neg hn, hloop, hcnt, Nat.zero_add]

/-- The machine after MODINV's commit, from the registers w that k trips of its loop have left (R130). -/
def State.afterModinv (s : State) (n k : Nat) (w : InvRegs) : State :=
  if w.r ≠ 1 then s.afterErr 3#4 k else s.afterOk (normalizeInverse w.t n) k

theorem State.afterModinv_of_r_eq_one (s : State) {n k : Nat} {w : InvRegs} (hr : w.r = 1) :
    s.afterModinv n k w = s.afterOk (normalizeInverse w.t n) k :=
  if_neg (not_not_intro hr)

theorem State.afterModinv_of_r_ne_one (s : State) {n k : Nat} {w : InvRegs} (hr : w.r ≠ 1) :
    s.afterModinv n k w = s.afterErr 3#4 k :=
  if_pos hr

theorem exec_modinv_of_modulus_eq_zero {s : State} {h : Latch} (hflight : s.InFlight h) (hn : h.m.toNat = 0) :
    exec .modinv s = .next (s.afterErr 2#4 0) := by
  have hres : execResult .modinv h = .err .invalidModulus 0 := if_pos hn
  exact exec_eq_afterErr hflight hres (Nat.two_pow_pos _)

theorem exec_modinv_of_endsAfter {s : State} {h : Latch} {a n k : Nat} (hflight : s.InFlight h)
    (ha : h.a.toNat = a) (hm : h.m.toNat = n) (hafit : a < 2 ^ s.cfg.width) (hnfit : n < 2 ^ s.cfg.width) (hn : n ≠ 0)
    (hends : (invStart a n).EndsAfter k) (hk : k ≤ tripBudget) :
    exec .modinv s = .next (s.afterModinv n k (invTrip^[k] (invStart a n))) := by
  have hres : execResult .modinv h = modinvResult a n := congrArg₂ modinvResult ha hm
  rw [modinvResult_of_endsAfter hn hends hk] at hres
  have hcount : k < 2 ^ s.cfg.width := hends.count_le.trans_lt hafit
  rw [State.afterModinv]
  split_ifs at hres ⊢
  · exact exec_eq_afterErr hflight hres hcount
  · exact exec_eq_afterOk hflight hres ((normalizeInverse_lt _ hn).trans hnfit) hcount

/-- On W-bit operands MODINV's loop ends within R134's bound, and the completion commits what it leaves. -/
theorem exec_modinv {s : State} {h : Latch} (hs : s.Inv) (hflight : s.InFlight h) (hn : h.m.toNat ≠ 0) :
    ∃ k ≤ 2 * s.cfg.width, (invStart h.a.toNat h.m.toNat).EndsAfter k ∧ k ≤ tripBudget ∧
      exec .modinv s =
        .next (s.afterModinv h.m.toNat k (invTrip^[k] (invStart h.a.toNat h.m.toNat))) := by
  obtain ⟨ha, _, hm, _⟩ := hs.latchOk hflight
  obtain ⟨_, hwidth⟩ := Config.width_bounds hs.1
  obtain ⟨k, hk, hends⟩ := exists_inv_endsAfter (w := invStart h.a.toNat h.m.toNat) ha
  have hbudget : k ≤ tripBudget := hk.trans (Nat.mul_le_mul_left 2 hwidth)
  exact ⟨k, hk, hends, hbudget, exec_modinv_of_endsAfter hflight rfl rfl ha hm hn hends hbudget⟩

/-- Settles O25: the loop's end, its R and its T, and the commit made of them. -/
theorem modinvRunsItsLoop : Obligations.ModinvRunsItsLoop := by
  refine ⟨fun s hidle => State.inFlight_memWrite_cmd hidle (by decide), fun s h hs hflight =>
    ⟨exec_modinv_of_modulus_eq_zero hflight, fun hn => ?_⟩⟩
  obtain ⟨k, hk, hends, _, hexec⟩ := exec_modinv hs hflight hn
  obtain ⟨hrun, hzero⟩ := id hends
  obtain ⟨hbezout, _⟩ := bezout_iterate h.a.toNat h.m.toNat k
  exact ⟨k, hk, _, rfl, hrun, hzero, hends.r_eq_gcd, hbezout, hexec⟩

/-- Settles O26: R is the gcd, and where it is 1 the congruence on T makes the normalized T an inverse. -/
theorem modinvIsInverse : Obligations.ModinvIsInverse := by
  intro s h hs hflight hpos
  have hn : h.m.toNat ≠ 0 := Nat.one_le_iff_ne_zero.mp hpos
  obtain ⟨k, _, hends, _, hexec⟩ := exec_modinv hs hflight hn
  have hgcd : (invTrip^[k] (invStart h.a.toNat h.m.toNat)).r = Nat.gcd h.a.toNat h.m.toNat := hends.r_eq_gcd
  refine ⟨k, fun hone => ?_, fun hne => by rw [hexec, State.afterModinv_of_r_ne_one s (hgcd.trans_ne hne)]⟩
  have hr := hgcd.trans hone
  obtain ⟨hbezout, _⟩ := bezout_iterate h.a.toNat h.m.toNat k
  rw [hr, Nat.cast_one] at hbezout
  exact ⟨_, normalizeInverse_lt _ hn, mul_normalizeInverse_mod hn hbezout,
    by rw [hexec, State.afterModinv_of_r_eq_one s hr]⟩

/-! ### An unreduced operand (R134) -/

/-- w with c more trips counted. -/
def InvRegs.addCount (c : Nat) (w : InvRegs) : InvRegs := { w with cnt := w.cnt + c }

/-- A trip does not look at the count. -/
theorem addCount_semiconj_invTrip (c : Nat) : Function.Semiconj (InvRegs.addCount c) invTrip invTrip := by
  intro w
  simp only [InvRegs.addCount, invTrip]
  congr 1
  omega

theorem iterate_invTrip_addCount (c k : Nat) (w : InvRegs) :
    invTrip^[k] (w.addCount c) = (invTrip^[k] w).addCount c :=
  (((addCount_semiconj_invTrip c).iterate_right k).eq w).symm

theorem InvRegs.endsAfter_addCount {c k : Nat} {w : InvRegs} : (w.addCount c).EndsAfter k ↔ w.EndsAfter k := by
  simp only [InvRegs.EndsAfter, iterate_invTrip_addCount]
  rfl

/-- For A > n the first trip swaps and the second reduces: two trips lead to the start for A mod n. -/
theorem invTrip_invTrip_invStart {a n : Nat} (h : n < a) :
    invTrip (invTrip (invStart a n)) = (invStart (a % n) n).addCount 2 := by
  simp [invTrip, invStart, InvRegs.addCount, Nat.div_eq_of_lt h, Nat.mod_eq_sub_div_mul]

/-- So the loop for A makes two trips more than the one for A mod n. -/
theorem InvRegs.EndsAfter.reduce {a n k : Nat} (h : (invStart a n).EndsAfter k) (hn : n ≠ 0) (hlt : n < a) :
    ∃ j, k = j + 2 ∧ (invStart (a % n) n).EndsAfter j := by
  obtain ⟨i, rfl, hfirst⟩ := h.tail (Nat.ne_zero_of_lt hlt)
  have hswap : (invTrip (invStart a n)).newr = n := by simp [invTrip, invStart, Nat.div_eq_of_lt hlt]
  obtain ⟨j, rfl, hsecond⟩ := hfirst.tail (hswap.trans_ne hn)
  rw [invTrip_invTrip_invStart hlt, InvRegs.endsAfter_addCount] at hsecond
  exact ⟨j, rfl, hsecond⟩

theorem iterate_invTrip_reduce {a n : Nat} (j : Nat) (hlt : n < a) :
    invTrip^[j + 2] (invStart a n) = (invTrip^[j] (invStart (a % n) n)).addCount 2 := by
  rw [Function.iterate_add_apply, ← iterate_invTrip_addCount, ← invTrip_invTrip_invStart hlt]
  rfl

/-- The commit of the same R and T after two trips more differs in STEPS alone. -/
theorem State.afterModinv_add_two (s : State) (n j : Nat) (w : InvRegs) :
    s.afterModinv n (j + 2) (w.addCount 2) =
      { s.afterModinv n j w with steps := BitVec.ofNat 64 ((s.afterModinv n j w).steps.toNat + 2) } := by
  have hsteps : BitVec.ofNat 64 (j + 2) = BitVec.ofNat 64 ((BitVec.ofNat 64 j).toNat + 2) :=
    BitVec.eq_of_toNat_eq (by simp)
  by_cases hr : w.r = 1
  · rw [State.afterModinv_of_r_eq_one s hr, State.afterModinv_of_r_eq_one (w := w.addCount 2) s hr, State.afterOk,
      hsteps]
    rfl
  · rw [State.afterModinv_of_r_ne_one s hr, State.afterModinv_of_r_ne_one (w := w.addCount 2) s hr, State.afterErr,
      hsteps]
    rfl

/-- h with A reduced mod n. -/
def Latch.reduceA (h : Latch) : Latch := { h with a := BitVec.ofNat 64 (h.a.toNat % h.m.toNat) }

theorem Latch.reduceA_a_toNat (h : Latch) : h.reduceA.a.toNat = h.a.toNat % h.m.toNat :=
  Nat.mod_eq_of_lt ((Nat.mod_le _ _).trans_lt h.a.isLt)

/-- Settles O28: after two trips the loop is the one for A mod n, and of the latches the commit keeps nothing. -/
theorem modinvUnreducedOperand : Obligations.ModinvUnreducedOperand := by
  intro s h hs hflight hpos hlt
  have hn : h.m.toNat ≠ 0 := Nat.one_le_iff_ne_zero.mp hpos
  obtain ⟨ha, _, hm, _⟩ := hs.latchOk hflight
  obtain ⟨k, _, hends, hbudget, hexec⟩ := exec_modinv hs hflight hn
  obtain ⟨j, rfl, hreduced⟩ := hends.reduce hn hlt
  have hexecReduced : exec .modinv { s with inflight := some h.reduceA } =
      .next (s.afterModinv h.m.toNat j (invTrip^[j] (invStart (h.a.toNat % h.m.toNat) h.m.toNat))) :=
    exec_modinv_of_endsAfter (h := h.reduceA) ⟨hflight.1, rfl⟩ h.reduceA_a_toNat rfl ((Nat.mod_le _ _).trans_lt ha) hm
      hn hreduced (by omega)
  rw [iterate_invTrip_reduce j hlt] at hexec
  exact ⟨_, _, hexec, hexecReduced, State.afterModinv_add_two _ _ _ _⟩

end Sys2Proof.Machine

/-! # MODPOW: the binary exponentiation loop runs to its end and leaves the exact power (43_modpow.md) -/

namespace Sys2Proof.Machine

/-! ### The trip count of the loop (R143) -/

/-- The loop of R140 with modulus m started on w makes exactly k trips: EXP is not 0 before each of them and is 0 after
the last. -/
def PowRegs.EndsAfter (m : Nat) (w : PowRegs) (k : Nat) : Prop :=
  (∀ j < k, ((powTrip m)^[j] w).exp ≠ 0) ∧ ((powTrip m)^[k] w).exp = 0

/-- j halvings of EXP leave something of it exactly while j is below its bit length. -/
theorem iterate_powTrip_exp_ne_zero_iff {m j : Nat} {w : PowRegs} :
    ((powTrip m)^[j] w).exp ≠ 0 ↔ j < Nat.size w.exp := by
  rw [iterate_powTrip_exp, Nat.lt_size, ← Nat.pos_iff_ne_zero, Nat.div_pos_iff]
  exact and_iff_right (Nat.two_pow_pos j)

/-- The loop makes bitlen(E) trips. -/
theorem powStart_endsAfter_size (m a e : Nat) : (powStart a e).EndsAfter m (Nat.size e) := by
  refine ⟨fun j hj => iterate_powTrip_exp_ne_zero_iff.mpr hj, ?_⟩
  by_contra hne
  exact lt_irrefl _ (iterate_powTrip_exp_ne_zero_iff (w := powStart a e) |>.mp hne)

/-! ### What every trip keeps (R144) -/

/-- What the registers still stand for: ACC times the power of BASE that is left to multiply in. -/
def PowRegs.value (w : PowRegs) : Nat := w.acc * w.base ^ w.exp

/-- EXP[0] goes into ACC, and the half that is left is a power of the square. -/
theorem value_powTrip_modEq (m : Nat) (w : PowRegs) : (powTrip m w).value ≡ w.value [MOD m] := by
  have hsquare : (mulmod w.base w.base m) ^ (w.exp / 2) ≡ (w.base * w.base) ^ (w.exp / 2) [MOD m] :=
    (Nat.mod_modEq _ m).pow _
  have hhalf := Nat.div_add_mod w.exp 2
  obtain heven | hodd := Nat.mod_two_eq_zero_or_one w.exp
  · have hexp : w.exp = 2 * (w.exp / 2) := by omega
    calc (powTrip m w).value
        = w.acc * (mulmod w.base w.base m) ^ (w.exp / 2) := by simp [PowRegs.value, powTrip, heven]
      _ ≡ w.acc * (w.base * w.base) ^ (w.exp / 2) [MOD m] := hsquare.mul_left _
      _ = w.acc * w.base ^ (2 * (w.exp / 2)) := by rw [pow_mul, sq]
      _ = w.value := by rw [← hexp, PowRegs.value]
  · have hexp : w.exp = 2 * (w.exp / 2) + 1 := by omega
    calc (powTrip m w).value
        = mulmod w.acc w.base m * (mulmod w.base w.base m) ^ (w.exp / 2) := by simp [PowRegs.value, powTrip, hodd]
      _ ≡ w.acc * w.base * (w.base * w.base) ^ (w.exp / 2) [MOD m] := (Nat.mod_modEq _ m).mul hsquare
      _ = w.acc * w.base ^ (2 * (w.exp / 2) + 1) := by rw [pow_succ, pow_mul, sq]; ring
      _ = w.value := by rw [← hexp, PowRegs.value]

theorem value_iterate_powTrip_modEq (m k : Nat) (w : PowRegs) : ((powTrip m)^[k] w).value ≡ w.value [MOD m] := by
  induction k with
  | zero => rfl
  | succ k ih =>
    rw [Function.iterate_succ_apply']
    exact (value_powTrip_modEq m _).trans ih

theorem acc_powTrip_lt {m : Nat} (w : PowRegs) (h : w.acc < m) : (powTrip m w).acc < m := by
  simp only [powTrip]
  split
  · exact Nat.mod_lt _ (Nat.zero_lt_of_lt h)
  · exact h

/-- ACC starts at 1, which M >= 2 exceeds, and every product put into it is reduced. -/
theorem acc_iterate_powTrip_lt {m : Nat} (hm : 2 ≤ m) (a e k : Nat) : ((powTrip m)^[k] (powStart a e)).acc < m := by
  induction k with
  | zero => exact hm
  | succ k ih =>
    rw [Function.iterate_succ_apply']
    exact acc_powTrip_lt _ ih

/-- With EXP at 0 there is only ACC left, which is then BASE0^E mod M (R144). -/
theorem acc_eq_pow_mod_of_endsAfter {a e m k : Nat} (hm : 2 ≤ m) (h : (powStart a e).EndsAfter m k) :
    ((powTrip m)^[k] (powStart a e)).acc = a ^ e % m := by
  obtain ⟨_, hzero⟩ := h
  have hvalue : 1 * a ^ e ≡ ((powTrip m)^[k] (powStart a e)).value [MOD m] :=
    (value_iterate_powTrip_modEq m k (powStart a e)).symm
  rw [PowRegs.value, hzero, pow_zero, mul_one, one_mul] at hvalue
  exact (Nat.mod_eq_of_modEq hvalue (acc_iterate_powTrip_lt hm a e k)).symm

/-! ### The completion -/

/-- The budget is not what ends a loop whose trips are within it (log entry 12). -/
theorem modpowResult_of_endsAfter {a e m k : Nat} (hm : 2 ≤ m) (h : (powStart a e).EndsAfter m k)
    (hk : k ≤ tripBudget) : modpowResult a e m = .ok ((powTrip m)^[k] (powStart a e)).acc k := by
  obtain ⟨hrun, hzero⟩ := h
  have hloop : whileLoop powGuard (powTrip m) tripBudget (powStart a e) = (powTrip m)^[k] (powStart a e) :=
    whileLoop_eq_iterate hk (fun j hj => by simp [powGuard, hrun j hj]) (by simp [powGuard, hzero])
  have hcnt : ((powTrip m)^[k] (powStart a e)).cnt = 0 + k :=
    iterate_count (count := PowRegs.cnt) (fun _ => rfl) k _
  have hm0 : m ≠ 0 := by omega
  have hm1 : m ≠ 1 := by omega
  simp only [modpowResult, if_neg hm0, if_neg hm1, hloop, hcnt, Nat.zero_add]

theorem exec_modpow_of_modulus_eq_zero {s : State} {h : Latch} (hflight : s.InFlight h) (hm : h.m.toNat = 0) :
    exec .modpow s = .next (s.afterErr 2#4 0) := by
  have hres : execResult .modpow h = .err .invalidModulus 0 := if_pos hm
  exact exec_eq_afterErr hflight hres (Nat.two_pow_pos _)

theorem exec_modpow_of_modulus_eq_one {s : State} {h : Latch} (hflight : s.InFlight h) (hm : h.m.toNat = 1) :
    exec .modpow s = .next (s.afterOk 0 0) := by
  have hm0 : h.m.toNat ≠ 0 := by omega
  have hres : execResult .modpow h = .ok 0 0 := (if_neg hm0).trans (if_pos hm)
  exact exec_eq_afterOk hflight hres (Nat.two_pow_pos _) (Nat.two_pow_pos _)

/-- R143's bound: a latched exponent has at most W bits. -/
theorem size_latched_b_le_width {s : State} {h : Latch} (hs : s.Inv) (hflight : s.InFlight h) :
    Nat.size h.b.toNat ≤ s.cfg.width := by
  obtain ⟨_, hb, _, _⟩ := hs.latchOk hflight
  exact Nat.size_le.mpr hb

/-- For M >= 2 the loop ends after bitlen(E) trips, and the completion commits the ACC it leaves. -/
theorem exec_modpow {s : State} {h : Latch} (hs : s.Inv) (hflight : s.InFlight h) (hm : 2 ≤ h.m.toNat) :
    exec .modpow s = .next (s.afterOk
      ((powTrip h.m.toNat)^[Nat.size h.b.toNat] (powStart h.a.toNat h.b.toNat)).acc (Nat.size h.b.toNat)) := by
  obtain ⟨_, _, hmfit, _⟩ := hs.latchOk hflight
  obtain ⟨_, hwidth⟩ := Config.width_bounds hs.1
  have hsize := size_latched_b_le_width hs hflight
  have hbudget : Nat.size h.b.toNat ≤ tripBudget := (hsize.trans hwidth).trans (by decide)
  have hends := powStart_endsAfter_size h.m.toNat h.a.toNat h.b.toNat
  have hres : execResult .modpow h = modpowResult h.a.toNat h.b.toNat h.m.toNat := rfl
  exact exec_eq_afterOk hflight (hres.trans (modpowResult_of_endsAfter hm hends hbudget))
    ((acc_iterate_powTrip_lt hm _ _ _).trans hmfit) (hsize.trans_lt Nat.lt_two_pow_self)

/-- Settles O21: the trip count is bitlen(E), since each trip halves EXP. -/
theorem modpowRunsItsLoop : Obligations.ModpowRunsItsLoop := by
  refine ⟨fun s hidle => State.inFlight_memWrite_cmd hidle (by decide), fun s h hs hflight =>
    ⟨exec_modpow_of_modulus_eq_zero hflight, exec_modpow_of_modulus_eq_one hflight, fun hm => ?_⟩⟩
  obtain ⟨hrun, hzero⟩ := powStart_endsAfter_size h.m.toNat h.a.toNat h.b.toNat
  exact ⟨_, size_latched_b_le_width hs hflight, rfl, hrun, hzero, acc_iterate_powTrip_lt hm _ _ _,
    exec_modpow hs hflight hm⟩

/-- Settles O22: the ACC of the loop's end is the power, by the value that every trip keeps mod M. -/
theorem modpowIsExactPower : Obligations.ModpowIsExactPower := by
  intro s h hs hflight
  refine ⟨?_, size_latched_b_le_width hs hflight⟩
  split_ifs with hm0 hm1
  · exact exec_modpow_of_modulus_eq_zero hflight hm0
  · exact exec_modpow_of_modulus_eq_one hflight hm1
  · have hm : 2 ≤ h.m.toNat := by omega
    rw [exec_modpow hs hflight hm, acc_eq_pow_mod_of_endsAfter hm (powStart_endsAfter_size _ _ _)]

end Sys2Proof.Machine

/-! # MODADD and MODMUL, and what all five commands share: the range of a result and the frame (44_modmul_modadd.md) -/

namespace Sys2Proof.Machine

/-! ### The completion of MODADD and MODMUL (R150, R151) -/

/-- The number x reduced mod m: what Exec of MODADD returns of the sum, and of MODMUL of the product. -/
def reduceResult (x m : Nat) : ExecResult :=
  if m = 0 then .err .invalidModulus 0 else .ok (x % m) 1

theorem modaddResult_eq_reduceResult (a b m : Nat) : modaddResult a b m = reduceResult (a + b) m := rfl

theorem modmulResult_eq_reduceResult (a b m : Nat) : modmulResult a b m = reduceResult (a * b) m := rfl

/-- M = 0 is the only error, and x mod M lies below M, so a register holds it whole. -/
theorem exec_reduceResult {i : Instr} {s : State} {h : Latch} {x : Nat} (hs : s.Inv) (hflight : s.InFlight h)
    (hres : execResult i h = reduceResult x h.m.toNat) :
    exec i s = .next (if h.m.toNat = 0 then s.afterErr 2#4 0 else s.afterOk (x % h.m.toNat) 1) := by
  obtain ⟨_, _, hmfit, _⟩ := hs.latchOk hflight
  obtain ⟨hwidth, _⟩ := Config.width_bounds hs.1
  rw [reduceResult] at hres
  split_ifs at hres ⊢ with hm
  · exact exec_eq_afterErr hflight hres (Nat.two_pow_pos _)
  · exact exec_eq_afterOk hflight hres ((Nat.mod_lt x (Nat.pos_of_ne_zero hm)).trans hmfit)
      (Nat.one_lt_two_pow (by omega))

/-- Settles O19: the number reduced is the exact sum. (The obligation's plain name is the model's Exec.) -/
theorem modaddResult_holds : Obligations.ModaddResult :=
  ⟨fun _ hidle => State.inFlight_memWrite_cmd hidle (by decide),
    fun _ _ hs hflight => exec_reduceResult hs hflight (modaddResult_eq_reduceResult _ _ _)⟩

/-- Settles O20: the number reduced is the exact product. (The obligation's plain name is the model's Exec.) -/
theorem modmulResult_holds : Obligations.ModmulResult :=
  ⟨fun _ hidle => State.inFlight_memWrite_cmd hidle (by decide),
    fun _ _ hs hflight => exec_reduceResult hs hflight (modmulResult_eq_reduceResult _ _ _)⟩

/-! ### The range of a result (R153) -/

/-- What the start has and every trip keeps, the loop's end has, wherever the budget puts that. -/
theorem whileLoop_induction {α : Type} {P : α → Prop} {guard : α → Bool} {body : α → α}
    (hbody : ∀ x, P x → P (body x)) (fuel : Nat) {x : α} (hx : P x) : P (whileLoop guard body fuel x) := by
  induction fuel generalizing x with
  | zero => exact hx
  | succ fuel ih =>
    rw [whileLoop]
    split
    · exact ih (hbody x hx)
    · exact hx

theorem max_gcdTrip_le (w : GcdRegs) : max (gcdTrip w).a (gcdTrip w).b ≤ max w.a w.b :=
  max_le (le_max_right _ _) ((Nat.mod_le _ _).trans (le_max_left _ _))

theorem gcdResult_ok_le {a b r n : Nat} (h : gcdResult a b = .ok r n) : r ≤ max a b := by
  have hloop := whileLoop_induction (P := fun w => max w.a w.b ≤ max a b) (guard := gcdGuard)
    (fun w hw => (max_gcdTrip_le w).trans hw) tripBudget (x := gcdStart a b) le_rfl
  cases h
  exact (le_max_left _ _).trans hloop

theorem reduceResult_ok_lt {x m r n : Nat} (h : reduceResult x m = .ok r n) : r < m := by
  unfold reduceResult at h
  split_ifs at h with hm
  cases h
  exact Nat.mod_lt x (Nat.pos_of_ne_zero hm)

theorem modpowResult_ok_lt {a e m r n : Nat} (h : modpowResult a e m = .ok r n) : r < m := by
  unfold modpowResult at h
  split_ifs at h with hm0 hm1
  · cases h
    omega
  · have hstart : (powStart a e).acc < m := by
      show 1 < m
      omega
    have hloop := whileLoop_induction (P := fun w => w.acc < m) (guard := powGuard) acc_powTrip_lt tripBudget hstart
    cases h
    exact hloop

theorem modinvResult_ok_lt {a m r n : Nat} (h : modinvResult a m = .ok r n) : r < m := by
  unfold modinvResult at h
  dsimp only at h
  split_ifs at h with hm
  cases h
  exact normalizeInverse_lt _ hm

/-- The range of what Exec returns on success, whatever the operands. -/
theorem execResult_ok_inRange {i : Instr} {h : Latch} {r n : Nat} (hres : execResult i h = .ok r n) :
    (i = .gcd → r ≤ max h.a.toNat h.b.toNat) ∧ (i ≠ .gcd → r < h.m.toNat) := by
  cases i with
  | modadd => exact ⟨nofun, fun _ => reduceResult_ok_lt hres⟩
  | modmul => exact ⟨nofun, fun _ => reduceResult_ok_lt hres⟩
  | modpow => exact ⟨nofun, fun _ => modpowResult_ok_lt hres⟩
  | gcd => exact ⟨fun _ => gcdResult_ok_le hres, fun hne => absurd rfl hne⟩
  | modinv => exact ⟨nofun, fun _ => modinvResult_ok_lt hres⟩

/-- Settles O18: RESULT takes the number Exec returns, which its W bits cannot make larger. -/
theorem resultInRange : Obligations.ResultInRange := by
  intro i s t h hs hflight ht herr
  cases (exec_inFlight i hflight).symm.trans ht
  cases hres : execResult i h with
  | err e n => simp [hres, State.commit] at herr
  | ok r n =>
    have hle : (s.commit (.ok r n)).result.toNat ≤ r :=
      (fitWord_toNat_of_wellFormed hs.1 r).trans_le (Nat.mod_le _ _)
    obtain ⟨hgcd, hmod⟩ := execResult_ok_inRange hres
    exact ⟨fun hi => hle.trans (hgcd hi), fun hi => hle.trans_lt (hmod hi)⟩

/-! ### The frame (R154, 40_command_lifecycle.md R106, R107) -/

@[simp] theorem State.commit_response (s : State) (x : ExecResult) : (s.commit x).response = s.response := by
  cases x <;> rfl

/-- A commit shows in three registers of the window at most. -/
theorem State.readReg_commit (s : State) (x : ExecResult) {r : Reg} (hstatus : r ≠ .status) (hresult : r ≠ .result)
    (hsteps : r ≠ .steps) : (s.commit x).readReg r = s.readReg r := by
  cases r with
  | status => exact absurd rfl hstatus
  | result => exact absurd rfl hresult
  | steps => exact absurd rfl hsteps
  | id | ctrl | cmd | opa | opb | opm => cases x <;> rfl

theorem State.readWord_commit (s : State) (x : ExecResult) {off : Offset} (hstatus : off ≠ 0x10#7)
    (hresult : off ≠ 0x38#7) (hsteps : off ≠ 0x40#7) : (s.commit x).readWord off = s.readWord off := by
  cases hreg : regAt off with
  | none => rw [State.readWord_reserved hreg, State.readWord_reserved hreg]
  | some r =>
    obtain rfl := eq_offset_of_regAt hreg
    rw [State.readWord_offset, State.readWord_offset]
    exact s.readReg_commit x (mt (congrArg Reg.offset) hstatus) (mt (congrArg Reg.offset) hresult)
      (mt (congrArg Reg.offset) hsteps)

/-- ERR rises in an error commit only, which leaves RESULT (40_command_lifecycle.md R107). -/
theorem State.commit_result_of_err {s : State} {x : ExecResult} (herr : (s.commit x).err = true)
    (hclear : s.err = false) : (s.commit x).result = s.result := by
  obtain ⟨hkeep, _⟩ | ⟨_, hresult⟩ := s.commit_result_or_err x
  · rw [hkeep, hclear] at herr
    cases herr
  · exact hresult

/-- Settles O13: an idle engine leaves the state, and either commit leaves all that the frame lists. -/
theorem commandFrame : Obligations.CommandFrame := by
  intro i s t ht
  rw [exec_eq_completeWith] at ht
  obtain ⟨_, rfl⟩ | ⟨h, _, rfl⟩ := completeWith_next ht
  · exact ⟨rfl, rfl, rfl, rfl, rfl, rfl, rfl, rfl, rfl, rfl, fun _ _ _ _ => rfl, fun _ _ => rfl⟩
  · obtain ⟨hcfg, hagenda⟩ := s.commit_keeps_cfg_agenda (execResult i h)
    exact ⟨hcfg, s.commit_irqEn _, s.commit_ovr _, s.commit_lastop _, s.commit_opa _, s.commit_opb _, s.commit_opm _,
      s.commit_response _, s.commit_hostFault _, hagenda, fun _ => s.readWord_commit _, State.commit_result_of_err⟩

end Sys2Proof.Machine

/-! # The exceptions of 60_exceptions.md: the error a command completes with, the host fault record, the interrupt -/

namespace Sys2Proof.Machine

/-! ### The error code Exec returns (R160, R162, R163, R168) -/

/-- The ERRCODE of what Exec returns: an error's code, or 0 for a success (60_exceptions.md R160). -/
def ExecResult.errorCode : ExecResult → Nibble
  | .ok _ _  => 0#4
  | .err e _ => e.code

/-- A commit over an ERRCODE of 0 leaves the code Exec returned there. -/
theorem State.commit_errcode {s : State} (x : ExecResult) (hclear : s.errcode = 0#4) :
    (s.commit x).errcode = x.errorCode := by
  cases x with
  | ok r n => exact hclear
  | err e n => rfl

theorem reduceResult_errorCode (x m : Nat) : (reduceResult x m).errorCode = if m = 0 then 2#4 else 0#4 := by
  rw [reduceResult]
  split <;> rfl

theorem modpowResult_errorCode (a e m : Nat) : (modpowResult a e m).errorCode = if m = 0 then 2#4 else 0#4 := by
  rw [modpowResult]
  split_ifs <;> rfl

/-- The zero modulus is found before the loop that finds whether A has an inverse (R168). -/
theorem modinvResult_errorCode {a : Nat} (n : Nat) (ha : a < 2 ^ 64) :
    (modinvResult a n).errorCode = if n = 0 then 2#4 else if Nat.gcd a n ≠ 1 then 3#4 else 0#4 := by
  by_cases hn : n = 0
  · simp only [modinvResult, if_pos hn]
    rfl
  · obtain ⟨k, hk, hends⟩ := exists_inv_endsAfter (w := invStart a n) ha
    have hgcd : (invTrip^[k] (invStart a n)).r = Nat.gcd a n := hends.r_eq_gcd
    rw [modinvResult_of_endsAfter hn hends hk, hgcd, if_neg hn]
    split <;> rfl

/-- Which error a command completes with, whatever its latched operands (R162, R163, R168). -/
theorem execResult_errorCode (i : Instr) (h : Latch) :
    (execResult i h).errorCode =
      if i ≠ .gcd ∧ h.m.toNat = 0 then 2#4
      else if i = .modinv ∧ Nat.gcd h.a.toNat h.m.toNat ≠ 1 then 3#4 else 0#4 := by
  cases i with
  | modadd => simp [execResult, modaddResult_eq_reduceResult, reduceResult_errorCode, Latch.operandM]
  | modmul => simp [execResult, modmulResult_eq_reduceResult, reduceResult_errorCode, Latch.operandM]
  | modpow => simp [execResult, modpowResult_errorCode, Latch.operandM]
  | gcd => rfl
  | modinv => simp [execResult, modinvResult_errorCode _ h.a.isLt, Latch.operandA, Latch.operandM]

/-- Settles O16: R44 has ERRCODE at 0 while the command is in flight, so the commit leaves Exec's code there; that ERR
goes with it is R44 again, after the commit. -/
theorem commandErrorCodes : Obligations.CommandErrorCodes := by
  intro i s h hs hflight
  obtain ⟨herr, hcode⟩ := hs.err_of_inFlight hflight
  obtain ⟨_, ⟨_, herrIff, _⟩, _⟩ := hs.commit (execResult i h)
  refine ⟨_, exec_inFlight i hflight, ?_, ?_, fun ht => State.commit_result_of_err ht herr⟩
  · have hm : h.m = 0#64 ↔ h.m.toNat = 0 := BitVec.toNat_eq
    rw [State.commit_errcode _ hcode, execResult_errorCode]
    simp only [hm]
  · rw [Bool.eq_iff_iff, herrIff, bne_iff_ne]

/-! ### The host fault record (R167) -/

/-- From s to t the port has answered ERROR and put the fault on record, or neither. -/
def FaultRecorded (s t : State) : Prop :=
  (t.response = some .error ∧ t.hostFault = true) ∨ (t.response ≠ some .error ∧ t.hostFault = s.hostFault)

theorem faultRecorded_memRead (s : State) (off : Offset) (size : Nat) : FaultRecorded s (s.memRead off size) := by
  cases hlegal : legalAccess off size with
  | true => exact .inr ⟨by simp [State.memRead_legal hlegal], State.memRead_hostFault_of_legal hlegal⟩
  | false => exact .inl (by simp [State.memRead_illegal hlegal, State.busError])

theorem faultRecorded_memWrite (s : State) (off : Offset) (size : Nat) (v : Word) :
    FaultRecorded s (s.memWrite off size v) := by
  cases hlegal : legalAccess off size with
  | true => exact .inr ⟨by simp [State.memWrite_legal v hlegal], State.memWrite_hostFault_of_legal v hlegal⟩
  | false => exact .inl (by simp [State.memWrite_illegal v hlegal, State.busError])

theorem faultRecorded_transact {s : State} (hnone : s.response = none) (tr : Transaction) :
    FaultRecorded s (s.transact tr) := by
  obtain h | ⟨off, size, h⟩ | ⟨off, size, v, h⟩ := s.transact_cases tr <;> rw [h]
  · exact .inr ⟨by simp [hnone], rfl⟩
  · exact faultRecorded_memRead s off size
  · exact faultRecorded_memWrite s off size v

theorem State.completion_response {s t : State} (ht : s.completion = .next t) : t.response = s.response := by
  rw [State.completion_eq_completeWith] at ht
  obtain ⟨_, rfl⟩ | ⟨h, _, rfl⟩ := completeWith_next ht
  · rfl
  · exact s.commit_response _

/-- The engine is no bus transaction: it neither answers nor records. -/
theorem faultRecorded_completion {s t : State} (hnone : s.response = none) (ht : s.completion = .next t) :
    FaultRecorded s t :=
  .inr ⟨by simp [State.completion_response ht, hnone], State.completion_hostFault ht⟩

/-- Every event starts with the last response gone and the record as it stood. -/
theorem faultRecorded_step {s t : State} (ht : step s = .next t) : FaultRecorded s t := by
  obtain ⟨_, hstep⟩ | ⟨tr, rest, _, hstep⟩ | ⟨rest, _, hstep⟩ | ⟨rest, _, hstep⟩ := step_cases s <;>
    rw [hstep] at ht
  · exact faultRecorded_completion (s := s.respond none) rfl ht
  · cases ht
    exact faultRecorded_transact (s := (s.respond none).schedule rest) rfl tr
  · exact faultRecorded_completion (s := (s.respond none).schedule rest) rfl ht
  · cases ht
    exact .inr ⟨by simp, rfl⟩

/-- Settles O39: a step answers ERROR and records it, or leaves the record. -/
theorem hostFaultIsNeverCleared : Obligations.HostFaultIsNeverCleared := by
  intro s t ht
  obtain ⟨herror, hfault⟩ | ⟨hquiet, hkeep⟩ := faultRecorded_step ht
  · exact ⟨fun _ => hfault, fun _ => hfault, fun _ _ => herror⟩
  · refine ⟨hkeep.trans, fun herror => absurd herror hquiet, fun hfree hfault => ?_⟩
    rw [hkeep, hfree] at hfault
    cases hfault

/-! ### The interrupt (R171, R172) -/

/-- The port's response is no input of irq. -/
@[simp] theorem State.respond_irq (s : State) (r : Option Response) : (s.respond r).irq = s.irq := rfl

/-- Settles O41: either commit sets DONE, and so does the error completion of an illegal command. -/
theorem completionRaisesIrq : Obligations.CompletionRaisesIrq := by
  refine ⟨fun _ => rfl, fun i s h hflight => ⟨_, exec_inFlight i hflight, ?_⟩, fun s v hidle hv => ?_⟩
  · simp [State.irq]
  · rw [State.memWrite_cmd, State.respond_irq, State.issueCommand_illegal hidle hv]
    simp [State.irq]

/-- Settles O42: the first two writes clear DONE, and the last two set IRQ_EN to bit 0 and leave DONE. -/
theorem hostClearsIrq : Obligations.HostClearsIrq := by
  intro s v
  have hstatus : s.memWrite 0x10#7 8 v = (s.clearStatus v).respond (some .okay) := s.memWrite_offset .status v
  have hctrl : v[1] = false → s.memWrite 0x08#7 8 v = State.respond { s with irqEn := v[0] } (some .okay) := by
    intro hv
    have hwrite : s.writeCtrl v = { s with irqEn := v[0] } := by simp [State.writeCtrl, hv]
    rw [← hwrite]
    exact s.memWrite_offset .ctrl v
  refine ⟨fun hv => ?_, fun hidle hv => ?_, fun hv hen => ?_, fun hv hen => ?_⟩
  · simp [hstatus, State.irq, State.clearStatus, hv]
  · obtain ⟨op, hop⟩ := Option.isSome_iff_exists.mp hv
    rw [State.memWrite_cmd, State.respond_irq, State.issueCommand_legal hidle hop]
    simp [State.irq]
  · simp [hctrl hv, State.irq, hen]
  · simp [hctrl hv, State.irq, hen]

end Sys2Proof.Machine

/-! # Resets and hazards of 70_reset_and_hazards.md: the two reset sources, late operand writes, the completion race -/

namespace Sys2Proof.Machine

/-! ### The two reset sources (R190, R191) -/

/-- A write inside the window is taken by the step as the access at its offset (20_memory.md R61). -/
theorem step_windowWrite {s : State} {off : Offset} {size : Nat} {v : Word} {rest : List Event}
    (hs : s.agenda = .bus (.write (s.cfg.base + off.toNat) size v) :: rest) :
    step s = .next (State.memWrite { s with agenda := rest, response := none } off size v) := by
  rw [step_of_agenda_cons hs]
  obtain ⟨hwindow, _⟩ := windowDecodesItsAddresses { s with agenda := rest, response := none } size v
  exact congrArg Host.Outcome.next (hwindow off).2

/-- Settles O44: the hardware reset's step is the block reset itself, and the CTRL write's is that of O30. -/
theorem bothResetsAgree : Obligations.BothResetsAgree := by
  intro s rest v hv
  refine ⟨fun hs => step_of_agenda_cons hs, fun hs => ?_⟩
  obtain ⟨_, hctrl⟩ := ctrlRegister { s with agenda := rest, response := none } v
  rw [step_windowWrite (off := 0x08#7) hs, hctrl, if_pos hv]

/-! ### Operand writes while a command runs (R197) -/

/-- A commit reads and writes no operand register, so it commutes with a write of one. -/
theorem State.commit_memWrite_operand (s : State) (x : ExecResult) {off : Offset}
    (hoff : off = 0x20#7 ∨ off = 0x28#7 ∨ off = 0x30#7) (v : Word) :
    (s.memWrite off 8 v).commit x = (s.commit x).memWrite off 8 v := by
  obtain rfl | rfl | rfl := hoff <;> cases x <;> rfl

/-- Settles O59: the write leaves the latches, so the completion commits the same result on either side of it. -/
theorem lateOperandWrites : Obligations.LateOperandWrites := by
  intro i s h off v hflight hoff
  refine ⟨_, exec_inFlight i hflight, ?_⟩
  rw [exec_inFlight i (State.inFlight_memWrite_operand hflight hoff v), s.commit_memWrite_operand _ hoff]

/-! ### The completion race (R198) -/

/-- A STATUS read shows BUSY in bit 0 (10_state.md R26). -/
theorem State.readWord_status_busy (s : State) : (s.readWord 0x10#7)[0] = s.busy := by
  obtain ⟨hbusy, _⟩ := statusReads s
  exact hbusy

/-- A W1C of DONE alone (10_state.md R32). -/
theorem State.memWrite_status_clearDone (s : State) :
    s.memWrite 0x10#7 8 0x2#64 = { s with done := false, response := some .okay } := by
  rw [statusWrite s 0x2#64]
  rfl

/-- A CMD write to a busy block leaves the command in flight and sets OVR (40_command_lifecycle.md R101). -/
theorem State.inFlight_memWrite_cmd_overrun {s : State} {h : Latch} (hflight : s.InFlight h) (v : Word) :
    (s.memWrite 0x18#7 8 v).InFlight h ∧ (s.memWrite 0x18#7 8 v).ovr = true := by
  rw [State.memWrite_cmd, State.issueCommand_busy v hflight.1]
  exact ⟨hflight, rfl⟩

/-- A CMD write to an idle block, legal or not, leaves OVR (40_command_lifecycle.md R102 to R104). -/
theorem State.memWrite_cmd_idle_ovr {s : State} (hidle : s.busy = false) (v : Word) :
    (s.memWrite 0x18#7 8 v).ovr = s.ovr := by
  rw [State.memWrite_cmd, State.respond_ovr]
  cases hv : decode v with
  | none => rw [State.issueCommand_illegal hidle hv, State.fail_ovr, State.accept_ovr]
  | some op => rw [State.issueCommand_legal hidle hv, State.startCommand_ovr, State.accept_ovr]

/-- An illegal word written to an idle block leaves BUSY 0, ERRCODE 1 and RESULT (40_command_lifecycle.md R103). -/
theorem State.memWrite_cmd_illegal {s : State} {v : Word} (hidle : s.busy = false) (hv : decode v = none) :
    (s.memWrite 0x18#7 8 v).busy = false ∧ (s.memWrite 0x18#7 8 v).errcode = 1#4 ∧
      (s.memWrite 0x18#7 8 v).result = s.result := by
  rw [State.memWrite_cmd, State.issueCommand_illegal hidle hv]
  exact ⟨rfl, rfl, rfl⟩

/-- Settles O60: before the completion BUSY = 1, and R44 has DONE at 0 already; after it the block is idle, with the
operand registers and OVR as they were. -/
theorem completionRace : Obligations.CompletionRace := by
  intro s h ⟨_, ⟨hstatus, _⟩, _⟩ hflight
  have hdone : s.done = false := (hstatus hflight.1).1
  have hclear : s.memWrite 0x10#7 8 0x2#64 = { s with response := some .okay } := by
    rw [s.memWrite_status_clearDone, ← hdone]
  refine ⟨s.readWord_status_busy.trans hflight.1, State.inFlight_memWrite_cmd_overrun hflight, hclear,
    s.commit (execResult h.op h), exec_inFlight h.op hflight, s.commit_done _, ?_⟩
  generalize execResult h.op h = x
  have hidle : (s.commit x).busy = false := s.commit_busy x
  have hovr : ∀ v, ((s.commit x).memWrite 0x18#7 8 v).ovr = s.ovr := fun v =>
    (State.memWrite_cmd_idle_ovr hidle v).trans (s.commit_ovr x)
  have hlatch : ∀ op, (s.commit x).latchOperands op = { op := op, a := s.opa, b := s.opb, m := s.opm } := fun op => by
    simp [State.latchOperands]
  refine ⟨(s.commit x).readWord_status_busy.trans hidle, fun v op hv => ⟨?_, hovr v⟩, fun v hv => ?_,
    (s.commit x).memWrite_status_clearDone⟩
  · rw [← hlatch op]
    exact State.inFlight_memWrite_cmd hidle hv
  · obtain ⟨hbusy, hcode, hresult⟩ := State.memWrite_cmd_illegal hidle hv
    exact ⟨hbusy, hcode, hresult, hovr v⟩

end Sys2Proof.Machine
